-- ==== Sys2Proof/Word.lean ====
section
/-! DEFINITION. The words of the NB-620: bytes, handles, table indices, and the fixed-size tables the block keeps
its state in. -/

namespace Sys2Proof

/-- One byte on the wire (R187). -/
abbrev Byte := BitVec 8

/-- A link and its port, L0..L3 (00_scope "Link names"). -/
abbrev Link := Fin 4

/-- Index of an object entry, 0..255 (R1). -/
abbrev ObjIx := Fin 256

/-- A session entry. The spec's session index 1..32 is this number plus one (R82). -/
abbrev SessIx := Fin 32

/-- Index of a wait record, 0..127 (R69). -/
abbrev WaitIx := Fin 128

/-- A request slot of one dispatcher, 0..7 (R120). -/
abbrev SlotIx := Fin 8

/-- A position of the patrol: 0..255 are object records, 256..287 session records (R179). -/
abbrev PatrolIx := Fin 288

/-- A request tag, 0000h..FFFFh (R117). -/
abbrev Tag := BitVec 16

/-- A DATA frame number or ack, modulo 128 (R187). -/
abbrev FrameNum := BitVec 7

/-- A credit count or limit, modulo 256 (R146). -/
abbrev Credit := BitVec 8

/-- A 16-bit handle: the low byte is the index of an entry, the high byte its generation (00_scope "Handles"). -/
structure Handle where
  index : Byte
  gen : Byte
  deriving DecidableEq, Repr

/-- The value 0000h, "none" wherever a handle field may be empty (00_scope "Handles"). -/
def Handle.zero : Handle := ⟨0, 0⟩

/-- All indices of a table of `n` entries, ascending: the order of every scan of the spec. -/
def indices (n : Nat) : List (Fin n) := List.finRange n

/-- Replace the entry at `i`. -/
def tableSet {α : Type} {n : Nat} (v : Vector α n) (i : Fin n) (x : α) : Vector α n := v.set i.val x

/-- Apply `f` to every entry. -/
def tableMap {α β : Type} {n : Nat} (f : α → β) (v : Vector α n) : Vector β n :=
  ⟨⟨v.toArray.toList.map f⟩, by simp⟩

end Sys2Proof
end

