-- ==== Sys2Proof/Config.lean ====
section
/-! DEFINITION. What the NB-620 fixes for every part: capacities, identification codes and fixed timer lengths. The
spec leaves no value to an implementation, so there is no free value here. -/

namespace Sys2Proof.Config

/-- Vendor code of IDENTIFY (R167). -/
def vendorCode : Nat := 0x3E19
/-- Part code of IDENTIFY (R167). -/
def partCode : Nat := 0x0620
/-- Revision of IDENTIFY (R167) and of HELLO (R139). -/
def revision : Nat := 1
/-- Number of links (R167). -/
def linkCount : Nat := 4
/-- Number of session entries (R82, R167). -/
def sessionCount : Nat := 32
/-- Number of object entries (R1, R167). -/
def objectCount : Nat := 256
/-- Number of wait records (R69, R167). -/
def waitCount : Nat := 128
/-- Request slots per link (R120, R167). -/
def slotCount : Nat := 8
/-- DATA frames a replay buffer holds (R145, R167). -/
def replayDepth : Nat := 24
/-- DATA frames a receive buffer holds (R143, R167). -/
def receiveDepth : Nat := 16
/-- Alerts the alert queue holds (R174). -/
def alertDepth : Nat := 8
/-- The notice budget of a session (R107). -/
def noticeBudget : Nat := 32
/-- Limit on holds plus lock waits of a session (R21). -/
def holdLimit : Nat := 8
/-- Longest message body in bytes (R117). -/
def maxBody : Nat := 48
/-- Largest 32-bit count; a statistics counter stops here (R171) and the serial wraps here (R105). -/
def maxU32 : Nat := 4294967295
/-- Fine ticks of the greeting timer (R139). -/
def greetingTicks : Nat := 5000
/-- Fine ticks of the HELLO timer (R139). -/
def helloTicks : Nat := 10
/-- Fine ticks of the idle timer (R147). -/
def idleTicks : Nat := 5
/-- Fine ticks of the grace timer (R183). -/
def graceTicks : Nat := 100
/-- REFCLK cycles of one fine tick (R66). -/
def refclkPerFine : Nat := 2500
/-- Fine ticks of one coarse tick, and of a millisecond (R66). -/
def finePerCoarse : Nat := 10
/-- The most fault handlings one event can chain, 288, and one more (R182). -/
def faultDepth : Nat := 289

end Sys2Proof.Config
end

