-- ==== Sys2Proof/Syntax.lean ====
section
/-! DEFINITION. The commands of the NB-620: one constructor of `Instr` for each row of spec/opcode_table.json, with
the row's operands. A request row names the port whose presented request the engine or the management unit takes
(R127); an event row names the port, slot, session or report it concerns; a receive row carries the fields of the good
frame. -/

namespace Sys2Proof

/-- A message as a DATA frame carries it: the eight header bytes and the body bytes that follow (R117, R188). The
body length field is kept beside the bytes because the two may disagree (R124). -/
structure Message where
  kind : Byte
  code : Byte
  flags : Byte
  bodyLen : Byte
  tag : Tag
  session : Handle
  body : List Byte
  deriving DecidableEq, Repr

/-- The fields of a HELLO frame (R139, R187). `role` is set for COORDINATOR. -/
structure Hello where
  revision : BitVec 4
  depth : BitVec 5
  seen : Bool
  role : Bool
  epoch : BitVec 16
  deriving DecidableEq, Repr

/-- Condition of a protected record against its check code (R178). -/
inductive Health where
  | clean          -- no error
  | oneBit         -- one bit wrong: corrected at the next read
  | uncorrectable  -- two bits or more wrong: detected at the next read
  deriving DecidableEq, Repr

/-- A disturbance of one protected record, from outside the part: the record at a patrol position is left in a
condition. It is an operand of FINE_TICK, the passing of time. -/
structure Upset where
  position : PatrolIx
  health : Health
  deriving DecidableEq, Repr

/-- The request slot reference of a wait, and the three values of a freeing report (R71). -/
structure SlotRef where
  port : Link
  slot : SlotIx
  occupancy : Byte
  deriving DecidableEq, Repr

/-- The block whose oldest outstanding report a MANAGEMENT_REPORT takes (R171). -/
inductive ReportSource where
  | port (p : Link)
  | dispatcher (p : Link)
  | engine
  | integrity
  deriving DecidableEq, Repr

/-- The commands, in the table's order. -/
inductive Instr where
  -- Requests: the engine or the management unit takes the request that port `p` presents.
  | openSession (p : Link)
  | resume (p : Link)
  | renew (p : Link)
  | close (p : Link)
  | create (p : Link)
  | find (p : Link)
  | delete (p : Link)
  | describe (p : Link)
  | listObjects (p : Link)
  | acquire (p : Link)
  | release (p : Link)
  | cancel (p : Link)
  | countRead (p : Link)
  | countSet (p : Link)
  | countAdd (p : Link)
  | countSwap (p : Link)
  | countRaise (p : Link)
  | countLower (p : Link)
  | await (p : Link)
  | listSessions (p : Link)
  | identify (p : Link)
  | paramGet (p : Link)
  | paramSet (p : Link)
  | statsGet (p : Link)
  | linkControlStart (p : Link)
  | linkControlStop (p : Link)
  | deviceReset (p : Link)
  -- Events of the request path, the engine and the notice unit.
  | takeRequest (p : Link)
  | dropNonRequest (p : Link)
  | slotFreeingReport (r : SlotRef)
  | orphanSessions (p : Link)
  | discardSlots (p : Link)
  | revertNotices (p : Link)
  | noticeAckReport (p : Link)
  | coarseTick (patrolFirst : Bool)
  | leaseExpiry (j : SessIx)
  | deadlineExpiry (w : WaitIx)
  | patrolFaultReport
  -- Time, and the timers of the ports and of the management unit.
  | fineTick (upsets : List Upset)
  | greetingTimerExpiry (p : Link)
  | helloTimerExpiry (p : Link)
  | holdoffTimerExpiry (p : Link)
  | idleTimerExpiry (p : Link)
  | silenceLimitReached (p : Link)
  | rewindTimerExpiry (p : Link)
  | graceTimerExpiry
  | resetReplyAcked
  -- The lanes.
  | laneReady (p : Link)
  | laneLost (p : Link)
  | receiveData (p : Link) (num ack : FrameNum) (limit : Credit) (msg : Message)
  | receiveIdle (p : Link) (ack : FrameNum) (limit : Credit)
  | receiveRewind (p : Link) (ack : FrameNum) (limit : Credit) (n : FrameNum)
  | receiveMark (p : Link) (ack : FrameNum) (limit : Credit) (n : FrameNum)
  | receiveHello (p : Link) (h : Hello)
  | rejectedFrame (p : Link)
  | selectNextFrame (p : Link)
  -- The part as a whole.
  | powerOn
  | resetN
  | managementReport (src : ReportSource)
  deriving DecidableEq, Repr

end Sys2Proof
end

