-- ==== Sys2Proof/WellFormed.lean ====
section
/-! DEFINITION. Which commands are well formed. The operand types rule out every other ill-formed operand (a link is
0..3, a frame number 0..127, a patrol position 0..287); what remains is the length of a DATA frame. -/

namespace Sys2Proof

/-- A DATA frame is 16..64 bytes long, so its message body has at most 48 bytes (R187). -/
def Message.fitsFrame (m : Message) : Bool := decide (m.body.length ≤ Config.maxBody)

/-- A command is well formed when the frame it delivers can be a good frame (R142, R187). -/
def Instr.wf (i : Instr) : Bool :=
  match i with
  | .receiveData _ _ _ _ msg => msg.fitsFrame
  | _ => true

end Sys2Proof
end

