-- ==== Sys2Proof/Decode.lean ====
section
/-! DEFINITION. The command that a word spells by the bits of spec/opcode_table.json. No row of the table gives bits
(spec/98_reader.md counts 0 rows with fixed bits and 0 with fields), so no word spells a command. How bytes on a lane
spell a command is `Sys2Proof.Machine.laneCommand`, in Machine/Wire.lean. -/

namespace Sys2Proof

/-- No row of the table gives bits: no word spells a command. -/
def decodeTableWord (_nbits _w : Nat) : Option Instr := none

end Sys2Proof
end

