-- ==== Sys2Proof/Machine/State.lean ====
section
/-! DEFINITION. The state of the NB-620 as plain data, block by block: the coordination engine with the record memory
and the notice unit (`Coord`), the four ports, the four dispatchers, the management unit, the timebase, the patrol, and
the queue of commands that are waiting. A report that one block has made and another has not yet taken is state of the
block that made it. -/

namespace Sys2Proof.Machine

/-- Why a step could stop with a fault. The spec gives every command an effect in every state, so no meaning raises
one: the type has no value. (Safe: a step never stops.) -/
inductive Fault : Type where
  deriving DecidableEq, Repr

/-- Why a step could be refused. -/
inductive Refusal where
  /-- Raised by an arm of `exec` whose command has no meaning yet; no arm does. Safe: the model stops. -/
  | notModelled (mnemonic : String)
  deriving DecidableEq, Repr

/-! ### Names -/

/-- Statuses in the order of their codes (R118's table of statuses). -/
inductive Status where
  | ok | queued | busy | noSession | notBound | noObject | wrongKind | exists | noRoom | poolFull | budget | holdLimit
  | orderViolation | alreadyHeld | alreadyWaiting | notHeld | notWaiting | inUse | range | faulted | malformed
  | unknownRequest | notPermitted
  deriving DecidableEq, Repr

/-- Kind field of a reply (R188): NONE 0, LOCK 1, COUNTER 2, UNKNOWN 3. -/
inductive KindField where
  | none | lock | counter | unknown
  deriving DecidableEq, Repr

/-- Mode of a lock (R17). -/
inductive LockMode where
  | free | exclusive | shared
  deriving DecidableEq, Repr

/-- Kind of a wait (R69); threshold and take flag belong to AT_LEAST only. -/
inductive WaitKind where
  | exclusive
  | shared
  | atLeast (threshold : Nat) (take : Bool)
  deriving DecidableEq, Repr

/-- Reason of WITHDRAWN and REVOKED (R104). -/
inductive RemovalReason where
  | deleted | faulted
  deriving DecidableEq, Repr

/-- Port states in the order of R136. -/
inductive PortState where
  | off | waiting | greeting | up | failed
  deriving DecidableEq, Repr

/-- Reasons of LINK_FAILED in the order of R173. -/
inductive FailReason where
  | laneLost | noGreeting | partnerRestart | protocol | silence | rewindLimit | stopped
  deriving DecidableEq, Repr

/-- Scopes of DEVICE_RESET in the order of R183. -/
inductive Scope where
  | sessions | all
  deriving DecidableEq, Repr

/-- Reset causes in the order of their codes (R167). -/
inductive Cause where
  | powerOn | pin | resetSessions | resetAll
  deriving DecidableEq, Repr

/-- The statistics of a link, in reply order (R171). -/
inductive LinkStat where
  | framesAccepted | framesRejected | sequenceErrors | duplicatesDropped | staleRewinds | rewindsSent | replaysStarted
  | failures | nonRequestDropped
  deriving DecidableEq, Repr

/-- The statistics of the device group, in reply order (R171). -/
inductive DeviceStat where
  | recordsCorrected | recordsFaulted | sessionsExpired | alertsDropped
  deriving DecidableEq, Repr

/-! ### The coordination engine's tables, the record memory and the notice unit -/

/-- The lock fields of a record (R17). -/
structure LockRecord where
  rank : Byte
  capacity : Nat
  mode : LockMode
  holders : List SessIx
  queue : List Handle
  abandoned : Bool
  deriving DecidableEq, Repr

/-- The counter fields of a record (R45). -/
structure CounterRecord where
  ceiling : Nat
  value : Nat
  waiters : List Handle
  deriving DecidableEq, Repr

/-- The fields of a record by its kind (R1). -/
inductive ObjKind where
  | lock (l : LockRecord)
  | counter (c : CounterRecord)
  deriving DecidableEq, Repr

/-- The record of a LIVE object (R1). -/
structure ObjRecord where
  name : List Byte
  kind : ObjKind
  deriving DecidableEq, Repr

/-- State of an object entry, with its record where it has one (R1). The contents of a FAULTED entry's record are not
used for any purpose, so none are kept. -/
inductive ObjBody where
  | free
  | live (r : ObjRecord) (h : Health)
  | faulted
  deriving DecidableEq, Repr

/-- An object entry: the generation of its header, and its state and record (R1). -/
structure ObjEntry where
  gen : Byte
  body : ObjBody
  deriving DecidableEq, Repr

/-- The record of a session (R82). -/
structure SessRecord where
  period : Nat
  remaining : Nat
  ordered : Bool
  label : List Byte
  holds : List Handle
  lockWaits : Nat
  counterWaits : Nat
  nextSerial : Nat
  deriving DecidableEq, Repr

/-- A session that is OPEN or ORPHANED: header fields, record and the record's condition (R82, R178). -/
structure SessCurrent where
  orphaned : Bool
  bound : Link
  record : SessRecord
  health : Health
  deriving DecidableEq, Repr

/-- A session entry; `none` is FREE (R82). -/
structure SessEntry where
  gen : Byte
  body : Option SessCurrent
  deriving DecidableEq, Repr

/-- An in-use wait record (R69). -/
structure WaitRecord where
  owner : SessIx
  object : Handle
  kind : WaitKind
  deadline : Option Nat
  tag : Tag
  slotRef : Option SlotRef
  deriving DecidableEq, Repr

/-- A record of the wait pool; `none` is free (R69). -/
structure WaitEntry where
  gen : Byte
  body : Option WaitRecord
  deriving DecidableEq, Repr

/-- Kind and detail of a notice (R104). -/
inductive NoticeKind where
  | granted (abandoned : Bool)
  | reached (value : Nat)
  | timedOut
  | withdrawn (why : RemovalReason)
  | revoked (why : RemovalReason)
  deriving DecidableEq, Repr

/-- A notice record (R104). `wait` holds the wait id and the request tag, both absent for REVOKED; `held` is the slot
reference of a held notice (R109). -/
structure Notice where
  serial : Nat
  kind : NoticeKind
  object : Handle
  wait : Option (Handle × Tag)
  sent : Bool
  held : Option SlotRef
  deriving DecidableEq, Repr

/-- What the engine last told the notice unit of a session: its state, generation and bound link (R110). -/
structure NoticeView where
  orphaned : Bool
  gen : Byte
  link : Link
  deriving DecidableEq, Repr

/-- The notice unit's state for one session index (R104, R110). -/
structure NoticeBox where
  view : Option NoticeView
  queue : List Notice
  deriving DecidableEq, Repr

/-- A report to the management unit, taken as an event of its own (R171). -/
inductive Report where
  | stat (l : Link) (k : LinkStat)
  | linkUp (l : Link)
  | linkFailed (l : Link) (why : FailReason)
  | sessionExpired (session : Handle) (released : Nat)
  | sessionFaulted (session : Handle)
  | recordFaulted (object : Handle)
  | faultedFreed
  | recordCorrected
  deriving DecidableEq, Repr

/-- What the coordination engine, the record memory and the notice unit hold: the object table (R1), the session table
(R82), the wait pool (R69), the notice queues (R104), and the reports of the engine and of the integrity unit that the
management unit has not taken yet. -/
structure Coord where
  objects : Vector ObjEntry 256
  sessions : Vector SessEntry 32
  waits : Vector WaitEntry 128
  boxes : Vector NoticeBox 32
  engineOut : List Report
  integrityOut : List Report
  deriving DecidableEq, Repr

/-! ### Requests, replies and the dispatchers -/

/-- A request whose message passed the length check, with its fields decoded (R117). Choice bytes, names and labels keep
the values sent: their ranges are checked by the rule that owns the field. -/
inductive Request where
  | openSession (lease : Option Nat) (ordered : Option Bool) (label : Option (List Byte))
  | resume
  | renew
  | close
  | create (kind : Byte) (name : List Byte) (openIfExists : Bool) (rank capacity : Option Byte)
      (ceiling initial : Option Nat)
  | find (name : List Byte)
  | delete (object : Handle) (force : Bool)
  | describe (object : Handle)
  | listObjects (start : Byte)
  | acquire (object : Handle) (mode : Byte) (try_ : Bool) (deadline : Option Nat)
  | release (object : Handle) (repaired : Bool)
  | cancel (wait : Handle)
  | countRead (object : Handle)
  | countSet (object : Handle) (value : Nat)
  | countAdd (object : Handle) (delta : Int)
  | countSwap (object : Handle) (expected new : Nat)
  | countRaise (object : Handle) (value : Nat)
  | countLower (object : Handle) (value : Nat)
  | await (object : Handle) (threshold : Nat) (take try_ : Bool) (deadline : Option Nat)
  | listSessions (start : Byte) (wantLabel : Option Bool)
  | identify
  | paramGet (id : Byte)
  | paramSet (id : Byte) (value : Nat)
  | statsGet (group : Byte) (clear : Bool)
  | linkControl (link command : Byte)
  | deviceReset (scope : Byte)
  deriving DecidableEq, Repr

/-- An entry of a LIST_OBJECTS reply (R14). -/
structure ObjListing where
  handle : Handle
  kind : KindField
  faulted : Bool
  deriving DecidableEq, Repr

/-- An entry of a LIST_SESSIONS reply (R100). -/
structure SessListing where
  handle : Handle
  orphaned : Bool
  bound : Link
  holds : Nat
  waits : Nat
  labelLen : Nat
  deriving DecidableEq, Repr

/-- The kind-dependent part of a DESCRIBE reply (R13). -/
inductive Description where
  | none
  | lock (name : List Byte) (mode : LockMode) (holders : List SessIx) (queueLen : Nat) (rank : Byte) (capacity : Nat)
      (abandoned : Bool)
  | counter (name : List Byte) (value ceiling waiters : Nat)
  deriving DecidableEq, Repr

/-- The body of a reply: its status and the reply fields of its code (R130). -/
inductive ReplyBody where
  | statusOnly (st : Status)
  | openSession (st : Status) (session : Handle) (lease : Nat) (epoch : BitVec 16)
  | resume (st : Status) (lease holds lockWaits counterWaits queued oldest : Nat)
  | renew (st : Status) (remaining : Nat)
  | close (st : Status) (released cancelled discarded : Nat)
  | create (st : Status) (object : Handle) (kind : KindField) (existed : Bool)
  | find (st : Status) (object : Handle) (kind : KindField)
  | delete (st : Status) (withdrawn revoked : Nat)
  | describe (st : Status) (d : Description)
  | listObjects (st : Status) (entries : List ObjListing) (next : Nat)
  | acquire (st : Status) (abandoned : Bool) (wait : Handle) (position : Nat)
  | release (st : Status) (grants : Nat) (abandoned : Bool)
  | cancel (st : Status) (object : Handle) (grants : Nat)
  | count (st : Status) (old new : Nat) (changed : Bool) (released : Nat)
  | await (st : Status) (old new : Nat) (changed : Bool) (released : Nat) (wait : Handle)
  | listSessions (st : Status) (entries : List SessListing) (next : Nat) (label : List Byte)
  | identify (st : Status) (epoch : BitVec 16) (cause : Cause)
  | identifyRefused (st : Status)
  | param (st : Status) (id value : Nat)
  | stats (st : Status) (group : Nat) (counters : List Nat)
  | linkControl (st : Status) (link : Nat) (state : PortState)
  | deviceReset (st : Status) (scope : Nat) (epoch : BitVec 16)
  deriving DecidableEq, Repr

/-- A reply ready to be sent: the header fields it returns, and its body (R130). -/
structure Reply where
  code : Byte
  tag : Tag
  session : Handle
  body : ReplyBody
  deriving DecidableEq, Repr

/-- The header fields of a request that its reply returns (R130). -/
structure RequestHeader where
  code : Byte
  tag : Tag
  session : Handle
  deriving DecidableEq, Repr

/-- The unit that executes a request (R119). -/
inductive Route where
  | engine | management
  deriving DecidableEq, Repr

/-- State and contents of a request slot (R120). -/
inductive SlotBody where
  | free
  | pending (hdr : RequestHeader) (req : Request) (route : Route)
  | finished (reply : Reply)
  deriving DecidableEq, Repr

/-- A request slot with its occupancy number (R120). -/
structure Slot where
  occupancy : Byte
  body : SlotBody
  deriving DecidableEq, Repr

/-- A dispatcher: its slots and reply queue (R120), the freeing reports the engine has not taken yet (R71), and the
reports the management unit has not taken yet (R118). -/
structure Dispatcher where
  slots : Vector Slot 8
  queue : List SlotIx
  freed : List SlotRef
  out : List Report
  deriving DecidableEq, Repr

/-! ### The ports -/

/-- A frame (R187). -/
inductive Frame where
  | data (num ack : FrameNum) (limit : Credit) (msg : Message)
  | idle (ack : FrameNum) (limit : Credit)
  | rewind (ack : FrameNum) (limit : Credit) (n : FrameNum)
  | mark (ack : FrameNum) (limit : Credit) (n : FrameNum)
  | hello (h : Hello)
  deriving DecidableEq, Repr

/-- What a replay-buffer entry records of the frame's load (R144). -/
inductive Carried where
  | reply (code : Byte)
  | alert
  | notice (session : Handle) (serial : Nat)
  deriving DecidableEq, Repr

/-- An entry of the replay buffer (R144, R145). -/
structure ReplayEntry where
  num : FrameNum
  msg : Message
  load : Carried
  deriving DecidableEq, Repr

/-- A port: the state of R136 and the recovery state of R154, its lane's condition (R138), the frame in progress
(R136), and the reports it has made that their owners have not taken yet (R144, R151). A timer is `none` while stopped
and counts down to `some 0`, where it has expired and its expiry has not been taken yet; the silence timer counts up. -/
structure Port where
  state : PortState
  laneReady : Bool
  seen : Bool
  partnerDepth : Option Nat
  greetingTimer : Option Nat
  helloTimer : Option Nat
  helloDue : Bool
  holdoffTimer : Option Nat
  partnerHeard : Bool
  nextNum : FrameNum
  sentCount : Credit
  partnerLimit : Credit
  replay : List ReplayEntry
  lastAdvertised : Option (FrameNum × Credit)
  idleTimer : Option Nat
  expected : FrameNum
  taken : Credit
  rxBuffer : List Message
  silence : Nat
  silenceDue : Bool
  lastServed : SessIx
  discarding : Bool
  rewindTimer : Option Nat
  attempts : Nat
  rewindDue : Bool
  replayPos : Option FrameNum
  markDue : Option FrameNum
  inProgress : Option Frame
  failDispatcher : Bool
  failEngine : Bool
  failNotices : Bool
  noticeAcks : List (Handle × Nat)
  resetAck : Bool
  out : List Report
  deriving DecidableEq, Repr

/-! ### The management unit, the timebase and the patrol -/

/-- The nine parameters, in the order of their ids, with their defaults (R168). -/
structure Params where
  mgmtLink : Nat := 0
  defaultLease : Nat := 2000
  rewindPeriod : Nat := 10
  rewindLimit : Nat := 6
  silenceLimit : Nat := 50
  restartHoldoff : Nat := 20
  autoRestart : Nat := 15
  scrub : Nat := 1
  alertMask : Nat := 63
  deriving DecidableEq, Repr

/-- The statistics counters of one link, in reply order (R171). -/
structure LinkStats where
  framesAccepted : Nat := 0
  framesRejected : Nat := 0
  sequenceErrors : Nat := 0
  duplicatesDropped : Nat := 0
  staleRewinds : Nat := 0
  rewindsSent : Nat := 0
  replaysStarted : Nat := 0
  failures : Nat := 0
  nonRequestDropped : Nat := 0
  deriving DecidableEq, Repr

/-- The statistics counters of the device group, in reply order (R171). -/
structure DeviceStats where
  recordsCorrected : Nat := 0
  recordsFaulted : Nat := 0
  sessionsExpired : Nat := 0
  alertsDropped : Nat := 0
  deriving DecidableEq, Repr

/-- An alert (R173). -/
inductive Alert where
  | linkUp (l : Link)
  | linkFailed (l : Link) (why : FailReason)
  | sessionExpired (session : Handle) (released : Nat)
  | sessionFaulted (session : Handle)
  | recordFaulted (object : Handle)
  | deviceReset (scope : Scope) (epoch : BitVec 16)
  deriving DecidableEq, Repr

/-- The management unit (R167 to R184). `reset` is the scope of the pending reset, `none` while reset pending is
clear. -/
structure Mgmt where
  params : Params
  linkStats : Vector LinkStats 4
  deviceStats : DeviceStats
  alerts : List Alert
  epoch : BitVec 16
  cause : Cause
  faultedCount : Nat
  reset : Option Scope
  grace : Option Nat
  lastServed : Link
  deriving DecidableEq, Repr

/-- The two dividers of the timebase (R66), and the coarse ticks delivered that the engine has not taken yet. -/
structure Timebase where
  refclk : Nat
  fine : Nat
  coarseDue : Nat
  deriving DecidableEq, Repr

/-- A patrol report of an uncorrectable record: its position and the generation its header had at the read (R179). -/
structure PatrolReport where
  position : PatrolIx
  gen : Byte
  deriving DecidableEq, Repr

/-- The patrol of the integrity unit: its position, and the reports the engine has not taken yet (R179). -/
structure Patrol where
  position : PatrolIx
  reports : List PatrolReport
  deriving DecidableEq, Repr

/-- The whole part, and the commands that are waiting, first in, first out. -/
structure State where
  coord : Coord
  ports : Vector Port 4
  disps : Vector Dispatcher 4
  mgmt : Mgmt
  engineLast : Link
  timebase : Timebase
  patrol : Patrol
  pending : List Instr
  deriving DecidableEq, Repr

/-! ### The state after power-on -/

/-- Every table empty, every generation 1 (R15, R81, R102, R116). -/
def Coord.initial : Coord where
  objects := Vector.replicate 256 ⟨1, .free⟩
  sessions := Vector.replicate 32 ⟨1, none⟩
  waits := Vector.replicate 128 ⟨1, none⟩
  boxes := Vector.replicate 32 ⟨none, []⟩
  engineOut := []
  integrityOut := []

/-- A port right after power-on: WAITING, empty, every count and number 0, every timer stopped (R153). -/
def Port.initial : Port where
  state := .waiting
  laneReady := false
  seen := false
  partnerDepth := none
  greetingTimer := none
  helloTimer := none
  helloDue := false
  holdoffTimer := none
  partnerHeard := false
  nextNum := 0
  sentCount := 0
  partnerLimit := 0
  replay := []
  lastAdvertised := some (0, 0)
  idleTimer := none
  expected := 0
  taken := 0
  rxBuffer := []
  silence := 0
  silenceDue := false
  lastServed := 31
  discarding := false
  rewindTimer := none
  attempts := 0
  rewindDue := false
  replayPos := none
  markDue := none
  inProgress := none
  failDispatcher := false
  failEngine := false
  failNotices := false
  noticeAcks := []
  resetAck := false
  out := []

/-- A dispatcher right after power-on: every slot FREE at occupancy 0 (R135). -/
def Dispatcher.initial : Dispatcher where
  slots := Vector.replicate 8 ⟨0, .free⟩
  queue := []
  freed := []
  out := []

/-- The management unit after power-on or RESET_N: defaults, zero counts, epoch 1 and the cause (R186). -/
def Mgmt.initial (cause : Cause) : Mgmt where
  params := {}
  linkStats := Vector.replicate 4 {}
  deviceStats := {}
  alerts := []
  epoch := 1
  cause := cause
  faultedCount := 0
  reset := none
  grace := none
  lastServed := 3

/-- The whole part in its initial state, no lane ready and nothing commanded (R186). -/
def State.initial (cause : Cause) : State where
  coord := Coord.initial
  ports := Vector.replicate 4 Port.initial
  disps := Vector.replicate 4 Dispatcher.initial
  mgmt := Mgmt.initial cause
  engineLast := 3
  timebase := ⟨0, 0, 0⟩
  patrol := ⟨0, []⟩
  pending := []

/-- The part right after power-on, before any lane has reported ready (R186). -/
def State.reset : State := State.initial .powerOn

end Sys2Proof.Machine
end

