-- ==== Sys2Proof/Machine/Flags.lean ====
section
/-! DEFINITION. The flags of messages: the options byte and the presence flags (R117, R188), and the codes of the named
values (R188). -/

namespace Sys2Proof.Machine

/-- Bit `i` of a byte, bit 0 the least significant (11_wire_formats). -/
def flagAt (b : Byte) (i : Nat) : Bool := b.getLsbD i

/-- The byte with bit `i` set or clear, every other bit 0. -/
def flagBit (i : Nat) (v : Bool) : Byte := if v then BitVec.ofNat 8 (2 ^ i) else 0

/-- No presence flag is set beyond the `n` optional fields the code defines (R124). -/
def flagsWithin (flags : Byte) (n : Nat) : Bool := decide (flags.toNat < 2 ^ n)

/-- Code of a status: its row in the status table, counting from 0 (R188). -/
def Status.code : Status → Byte
  | .ok => 0 | .queued => 1 | .busy => 2 | .noSession => 3 | .notBound => 4 | .noObject => 5 | .wrongKind => 6
  | .exists => 7 | .noRoom => 8 | .poolFull => 9 | .budget => 10 | .holdLimit => 11 | .orderViolation => 12
  | .alreadyHeld => 13 | .alreadyWaiting => 14 | .notHeld => 15 | .notWaiting => 16 | .inUse => 17 | .range => 18
  | .faulted => 19 | .malformed => 20 | .unknownRequest => 21 | .notPermitted => 22

/-- Kind field of a reply (R188). -/
def KindField.code : KindField → Byte
  | .none => 0 | .lock => 1 | .counter => 2 | .unknown => 3

/-- Mode of a lock, by its place in the list of R13. -/
def LockMode.code : LockMode → Byte
  | .free => 0 | .exclusive => 1 | .shared => 2

/-- Port state, by its place in the list of R136. -/
def PortState.code : PortState → Byte
  | .off => 0 | .waiting => 1 | .greeting => 2 | .up => 3 | .failed => 4

/-- Reason of LINK_FAILED, by its place in the list of R173. -/
def FailReason.code : FailReason → Byte
  | .laneLost => 0 | .noGreeting => 1 | .partnerRestart => 2 | .protocol => 3 | .silence => 4 | .rewindLimit => 5
  | .stopped => 6

/-- Scope of a DEVICE_RESET, by its place in the list of R183. -/
def Scope.code : Scope → Byte
  | .sessions => 0 | .all => 1

/-- Reset cause, in the order of R167. -/
def Cause.code : Cause → Byte
  | .powerOn => 0 | .pin => 1 | .resetSessions => 2 | .resetAll => 3

/-- Reason of WITHDRAWN and REVOKED (R189). -/
def RemovalReason.code : RemovalReason → Nat
  | .deleted => 0 | .faulted => 1

/-- Notice kind code: its row in the kinds table of R104, counting from 1 (R188). -/
def NoticeKind.code : NoticeKind → Byte
  | .granted _ => 1 | .reached _ => 2 | .timedOut => 3 | .withdrawn _ => 4 | .revoked _ => 5

/-- Alert kind code (R173). -/
def Alert.code : Alert → Byte
  | .linkUp _ => 1 | .linkFailed _ _ => 2 | .sessionExpired _ _ => 3 | .sessionFaulted _ => 4 | .recordFaulted _ => 5
  | .deviceReset _ _ => 6

/-- Code of a request: its row number in the catalogue of chapter 7, counting OPEN as 1 (R188). -/
def Request.code : Request → Byte
  | .openSession .. => 1 | .resume => 2 | .renew => 3 | .close => 4 | .create .. => 5 | .find _ => 6
  | .delete .. => 7 | .describe _ => 8 | .listObjects _ => 9 | .acquire .. => 10 | .release .. => 11 | .cancel _ => 12
  | .countRead _ => 13 | .countSet .. => 14 | .countAdd .. => 15 | .countSwap .. => 16 | .countRaise .. => 17
  | .countLower .. => 18 | .await .. => 19 | .listSessions .. => 20 | .identify => 21 | .paramGet _ => 22
  | .paramSet .. => 23 | .statsGet .. => 24 | .linkControl .. => 25 | .deviceReset _ => 26

/-- The unit a request goes to: rows 21 to 26 of the catalogue to the management unit, the others to the engine
(R119). -/
def Request.route (r : Request) : Route := if 21 ≤ r.code.toNat then .management else .engine

/-- A code is in the catalogue: 01h..1Ah (R188). -/
def inCatalogue (code : Byte) : Bool := decide (1 ≤ code.toNat ∧ code.toNat ≤ 26)

end Sys2Proof.Machine
end

