-- ==== Sys2Proof/Machine/Ops.lean ====
section
/-! DEFINITION. The named operations over the block's tables: handles and generations, reading and writing entries,
the notices of a session, and the checked read of a protected record. Every meaning goes through these. -/

namespace Sys2Proof

/-- The object entry a handle indexes: its low byte (R4). -/
def Handle.objIx (h : Handle) : ObjIx := ⟨h.index.toNat, h.index.isLt⟩

/-- The session entry a handle indexes, if its low byte is in 1..32 (R84). -/
def Handle.sessIx? (h : Handle) : Option SessIx :=
  if hb : 1 ≤ h.index.toNat ∧ h.index.toNat ≤ 32 then some ⟨h.index.toNat - 1, by omega⟩ else none

/-- The wait record a handle indexes, if its low byte is in 0..127 (R73). -/
def Handle.waitIx? (h : Handle) : Option WaitIx :=
  if hb : h.index.toNat < 128 then some ⟨h.index.toNat, hb⟩ else none

end Sys2Proof

namespace Sys2Proof.Machine

/-! ### Generations, serials and handles -/

/-- A generation advances by one, from 255 to 1 (00_scope "Handles"). -/
def advanceGen (g : Byte) : Byte := if g = 255 then 1 else g + 1

/-- The device epoch advances by one, from 65535 to 1 (R183, R184). -/
def advanceEpoch (e : BitVec 16) : BitVec 16 := if e = 65535 then 1 else e + 1

/-- The next notice serial advances by one, from 4 294 967 295 to 1 (R105). -/
def advanceSerial (n : Nat) : Nat := if n = Config.maxU32 then 1 else n + 1

/-- A 32-bit statistics count rises by one and stops at its largest value (R171). -/
def saturate (n : Nat) : Nat := if n < Config.maxU32 then n + 1 else n

/-- The handle of the entry of table index `i` at generation `g` (R3, R69). -/
def mkHandle (i : Nat) (g : Byte) : Handle := ⟨BitVec.ofNat 8 i, g⟩

/-- The handle of an object entry (R3). -/
def objHandle (i : ObjIx) (g : Byte) : Handle := mkHandle i.val g

/-- The handle of a session entry: its index is 1..32 (R84). -/
def sessHandle (j : SessIx) (g : Byte) : Handle := mkHandle (j.val + 1) g

/-- The wait id of a wait record (R69). -/
def waitHandle (w : WaitIx) (g : Byte) : Handle := mkHandle w.val g

/-! ### Object entries -/

/-- The object entry at `i`. -/
def Coord.obj (c : Coord) (i : ObjIx) : ObjEntry := c.objects[i]

/-- Replace the object entry at `i`. -/
def Coord.setObj (c : Coord) (i : ObjIx) (e : ObjEntry) : Coord := { c with objects := tableSet c.objects i e }

/-- Replace the body of the object entry at `i`, keeping its generation. -/
def Coord.setObjBody (c : Coord) (i : ObjIx) (b : ObjBody) : Coord := c.setObj i ⟨(c.obj i).gen, b⟩

/-- The entry becomes FREE and its generation advances (R2). -/
def Coord.freeObj (c : Coord) (i : ObjIx) : Coord := c.setObj i ⟨advanceGen (c.obj i).gen, .free⟩

/-- The handle object entry `i` has now. -/
def Coord.objHandle (c : Coord) (i : ObjIx) : Handle := Machine.objHandle i (c.obj i).gen

/-- The record of a LIVE entry. -/
def ObjBody.record? : ObjBody → Option ObjRecord
  | .live r _ => some r
  | _ => none

/-- The record of entry `i`, if it is LIVE. -/
def Coord.record? (c : Coord) (i : ObjIx) : Option ObjRecord := (c.obj i).body.record?

/-- The lock at entry `i`, if it is LIVE and a lock. -/
def Coord.lock? (c : Coord) (i : ObjIx) : Option LockRecord :=
  match c.record? i with
  | some ⟨_, .lock l⟩ => some l
  | _ => none

/-- The counter at entry `i`, if it is LIVE and a counter. -/
def Coord.counter? (c : Coord) (i : ObjIx) : Option CounterRecord :=
  match c.record? i with
  | some ⟨_, .counter k⟩ => some k
  | _ => none

/-- Write the kind fields of the LIVE record at `i`, whole and with a fresh check code (R178). -/
def Coord.setKind (c : Coord) (i : ObjIx) (k : ObjKind) : Coord :=
  match c.record? i with
  | some r => c.setObjBody i (.live { r with kind := k } .clean)
  | none => c

/-- Write the lock fields of the LIVE record at `i`. -/
def Coord.setLock (c : Coord) (i : ObjIx) (l : LockRecord) : Coord := c.setKind i (.lock l)

/-- Write the counter fields of the LIVE record at `i`. -/
def Coord.setCounter (c : Coord) (i : ObjIx) (k : CounterRecord) : Coord := c.setKind i (.counter k)

/-! ### Session entries -/

/-- The session entry at `j`. -/
def Coord.sess (c : Coord) (j : SessIx) : SessEntry := c.sessions[j]

/-- Replace the session entry at `j`. -/
def Coord.setSess (c : Coord) (j : SessIx) (e : SessEntry) : Coord := { c with sessions := tableSet c.sessions j e }

/-- The record of session `j`, if it is OPEN or ORPHANED. -/
def Coord.sessRecord? (c : Coord) (j : SessIx) : Option SessRecord := (c.sess j).body.map (·.record)

/-- The handle session entry `j` has now. -/
def Coord.sessHandle (c : Coord) (j : SessIx) : Handle := Machine.sessHandle j (c.sess j).gen

/-- Write the record of session `j`, whole and with a fresh check code (R178). -/
def Coord.setSessRecord (c : Coord) (j : SessIx) (r : SessRecord) : Coord :=
  match (c.sess j).body with
  | some b => c.setSess j { c.sess j with body := some { b with record := r, health := .clean } }
  | none => c

/-- Change the record of session `j`, if it is OPEN or ORPHANED. -/
def Coord.modSess (c : Coord) (j : SessIx) (f : SessRecord → SessRecord) : Coord :=
  match c.sessRecord? j with
  | some r => c.setSessRecord j (f r)
  | none => c

/-! ### Wait records -/

/-- The wait record entry at `w`. -/
def Coord.wait (c : Coord) (w : WaitIx) : WaitEntry := c.waits[w]

/-- Replace the wait record entry at `w`. -/
def Coord.setWait (c : Coord) (w : WaitIx) (e : WaitEntry) : Coord := { c with waits := tableSet c.waits w e }

/-- The wait record becomes free and its generation advances (R69). -/
def Coord.freeWait (c : Coord) (w : WaitIx) : Coord := c.setWait w ⟨advanceGen (c.wait w).gen, none⟩

/-- The in-use wait record a wait id names: its index is in 0..127, and the record there is in use at the id's
generation (R69, R73). -/
def Coord.findWait (c : Coord) (id : Handle) : Option (WaitIx × WaitRecord) :=
  match id.waitIx? with
  | none => none
  | some w => if (c.wait w).gen = id.gen then (c.wait w).body.map (w, ·) else none

/-- A lock wait has kind EXCLUSIVE or SHARED (R20). -/
def WaitKind.isLock : WaitKind → Bool
  | .atLeast _ _ => false
  | _ => true

/-- Lower the owner's lock or counter wait count by one, as a wait of this kind ends (R20, R47). -/
def SessRecord.lowerCount (r : SessRecord) (k : WaitKind) : SessRecord :=
  if k.isLock then { r with lockWaits := r.lockWaits - 1 } else { r with counterWaits := r.counterWaits - 1 }

/-- Raise the owner's lock or counter wait count by one, as a wait of this kind is placed (R20, R47). -/
def SessRecord.raiseCount (r : SessRecord) (k : WaitKind) : SessRecord :=
  if k.isLock then { r with lockWaits := r.lockWaits + 1 } else { r with counterWaits := r.counterWaits + 1 }

/-- Remove a wait id from the queue or list of its object, wherever it stands (R19, R47). -/
def Coord.dequeue (c : Coord) (i : ObjIx) (id : Handle) : Coord :=
  match c.record? i with
  | some ⟨_, .lock l⟩ => c.setLock i { l with queue := l.queue.erase id }
  | some ⟨_, .counter k⟩ => c.setCounter i { k with waiters := k.waiters.erase id }
  | none => c

/-- The lowest-numbered free wait record (R70). -/
def Coord.freeWaitIx? (c : Coord) : Option WaitIx := (indices 128).find? fun w => (c.wait w).body.isNone

/-! ### Notices -/

/-- The notice unit's state for session index `j`. -/
def Coord.box (c : Coord) (j : SessIx) : NoticeBox := c.boxes[j]

/-- Replace the notice unit's state for session index `j`. -/
def Coord.setBox (c : Coord) (j : SessIx) (b : NoticeBox) : Coord := { c with boxes := tableSet c.boxes j b }

/-- Make a notice for session `j`: append it UNSENT at the tail of its queue with the session's next serial, which
advances (R105). A session that is FREE gets none. -/
def Coord.pushNotice (c : Coord) (j : SessIx) (kind : NoticeKind) (object : Handle) (wait : Option (Handle × Tag))
    (held : Option SlotRef) : Coord :=
  match c.sessRecord? j with
  | none => c
  | some r =>
    let n : Notice := ⟨r.nextSerial, kind, object, wait, false, held⟩
    (c.setBox j { c.box j with queue := (c.box j).queue ++ [n] }).modSess j
      fun r => { r with nextSerial := advanceSerial r.nextSerial }

/-- Make the notice that ends wait `id`: held where the record's request slot reference is present (R109). -/
def Coord.pushWaitNotice (c : Coord) (kind : NoticeKind) (id : Handle) (r : WaitRecord) : Coord :=
  c.pushNotice r.owner kind r.object (some (id, r.tag)) r.slotRef

/-- Revert every SENT notice to UNSENT, keeping order and serials (R113). -/
def NoticeBox.revert (b : NoticeBox) : NoticeBox :=
  { b with queue := b.queue.map fun n => { n with sent := false } }

/-- The unit sets a session ORPHANED in its view and reverts its SENT notices (R113). -/
def NoticeBox.orphan (b : NoticeBox) : NoticeBox :=
  { b.revert with view := b.view.map fun v => { v with orphaned := true } }

/-- The charge of session `j`: twice its lock waits, its counter waits, its holds and its queued notices (R107). -/
def Coord.charge (c : Coord) (j : SessIx) : Nat :=
  match c.sessRecord? j with
  | some r => 2 * r.lockWaits + r.counterWaits + r.holds.length + (c.box j).queue.length
  | none => 0

/-- The headroom of session `j`: 32 less its charge (R107). -/
def Coord.headroom (c : Coord) (j : SessIx) : Nat := Config.noticeBudget - c.charge j

/-! ### Reports to the management unit -/

/-- The engine makes a report to the management unit. -/
def Coord.report (c : Coord) (r : Report) : Coord := { c with engineOut := c.engineOut ++ [r] }

/-- The integrity unit reports a corrected record (R178). -/
def Coord.reportCorrected (c : Coord) : Coord := { c with integrityOut := c.integrityOut ++ [.recordCorrected] }

/-! ### The checked read of a protected record -/

/-- A protected record found uncorrectable (R180, R181). -/
inductive Damaged where
  | obj (i : ObjIx)
  | sess (j : SessIx)
  deriving DecidableEq, Repr

/-- What the engine does with an uncorrectable record, within the event that found it. -/
abbrev Handler := Damaged → Coord → Coord

/-- Read the record of object entry `i` through the integrity unit (R178): a single wrong bit is corrected and
reported; an uncorrectable record is not used and is handled at once. Nothing is read in an entry that is not LIVE. -/
def readObj (H : Handler) (i : ObjIx) (c : Coord) : Option ObjRecord × Coord :=
  match (c.obj i).body with
  | .live r .clean => (some r, c)
  | .live r .oneBit => (some r, (c.setObjBody i (.live r .clean)).reportCorrected)
  | .live _ .uncorrectable => (none, H (.obj i) c)
  | _ => (none, c)

/-- Read the record of session entry `j` through the integrity unit (R178). -/
def readSess (H : Handler) (j : SessIx) (c : Coord) : Option SessRecord × Coord :=
  match (c.sess j).body with
  | some b =>
    match b.health with
    | .clean => (some b.record, c)
    | .oneBit =>
      (some b.record, (c.setSess j { c.sess j with body := some { b with health := .clean } }).reportCorrected)
    | .uncorrectable => (none, H (.sess j) c)
  | none => (none, c)

/-- Run `f` over the entries of a scan in order. -/
def scan {α : Type} (xs : List α) (f : α → Coord → Coord) (c : Coord) : Coord := xs.foldl (fun c x => f x c) c

/-! ### Ports, dispatchers and the management unit in the state -/

/-- Port `p`. -/
def State.port (s : State) (p : Link) : Port := s.ports[p]

/-- Replace port `p`. -/
def State.setPort (s : State) (p : Link) (x : Port) : State := { s with ports := tableSet s.ports p x }

/-- Change port `p`. -/
def State.modPort (s : State) (p : Link) (f : Port → Port) : State := s.setPort p (f (s.port p))

/-- The dispatcher of port `p`. -/
def State.disp (s : State) (p : Link) : Dispatcher := s.disps[p]

/-- Replace the dispatcher of port `p`. -/
def State.setDisp (s : State) (p : Link) (d : Dispatcher) : State := { s with disps := tableSet s.disps p d }

/-- Change the dispatcher of port `p`. -/
def State.modDisp (s : State) (p : Link) (f : Dispatcher → Dispatcher) : State := s.setDisp p (f (s.disp p))

/-- Replace the engine's tables. -/
def State.setCoord (s : State) (c : Coord) : State := { s with coord := c }

/-- Replace the management unit. -/
def State.setMgmt (s : State) (m : Mgmt) : State := { s with mgmt := m }

/-- Slot `k` of a dispatcher. -/
def Dispatcher.slot (d : Dispatcher) (k : SlotIx) : Slot := d.slots[k]

/-- Replace slot `k` of a dispatcher. -/
def Dispatcher.setSlot (d : Dispatcher) (k : SlotIx) (x : Slot) : Dispatcher := { d with slots := tableSet d.slots k x }

end Sys2Proof.Machine
end

