-- ==== Sys2Proof/Machine/Operands.lean ====
section
/-! DEFINITION. The operand forms of the block: how the bytes of a request body give the request's fields, and how
replies, notices and alerts are laid out in message bodies (R117, R124, R188, R189). -/

namespace Sys2Proof.Machine

/-! ### Reading a request body -/

/-- A reader takes the bytes left of a body, and answers a field and the bytes after it, or nothing where the body is
too short. -/
abbrev Reader (α : Type) := List Byte → Option (α × List Byte)

/-- A one-byte field. -/
def readByte : Reader Byte
  | b :: rest => some (b, rest)
  | [] => none

/-- A two-byte unsigned field, least significant byte first (R188). -/
def readU16 : Reader Nat
  | a :: b :: rest => some (a.toNat + 256 * b.toNat, rest)
  | _ => none

/-- A four-byte unsigned field, least significant byte first (R188). -/
def readU32 : Reader Nat
  | a :: b :: c :: d :: rest => some (a.toNat + 256 * (b.toNat + 256 * (c.toNat + 256 * d.toNat)), rest)
  | _ => none

/-- A two-byte handle or wait id: index byte, then generation byte (R188). -/
def readHandle : Reader Handle
  | a :: b :: rest => some (⟨a, b⟩, rest)
  | _ => none

/-- The delta of COUNT_ADD: four bytes in two's complement (R188). -/
def readI32 : Reader Int := fun bs =>
  (readU32 bs).map fun (n, rest) => (if n < 2147483648 then (n : Int) else (n : Int) - 4294967296, rest)

/-- A name or label: a length byte, and as many bytes as it states, whatever its value (R124). -/
def readName : Reader (List Byte)
  | n :: rest => if n.toNat ≤ rest.length then some (rest.take n.toNat, rest.drop n.toNat) else none
  | [] => none

/-- An options byte with one flag; the reserved bits are disregarded (R188). -/
def readFlag : Reader Bool := fun bs => (readByte bs).map fun (b, rest) => (flagAt b 0, rest)

/-- A field that the request always has, or has when its presence flag is set (R117). -/
def readIf {α : Type} (present : Bool) (r : Reader α) : Reader (Option α) := fun bs =>
  if present then (r bs).map fun (x, rest) => (some x, rest) else some (none, bs)

/-- The body ends here: bytes beyond the fields make the message MALFORMED (R124). -/
def finish {α : Type} (x : α) (rest : List Byte) : Option α := if rest.isEmpty then some x else none

/-- The fields of a request body by its code and presence flags, or nothing where the lengths do not agree or a flag is
set that the code does not define (R124). Fields stand in the order in which the request's rule lists them (R188). -/
def parseRequest (code flags : Byte) (body : List Byte) : Option Request :=
  match code.toNat with
  | 1 =>  -- OPEN: lease, ordered and label, each optional (5.4)
    if flagsWithin flags 3 then do
      let (lease, r) ← readIf (flagAt flags 0) readU16 body
      let (ordered, r) ← readIf (flagAt flags 1) readFlag r
      let (label, r) ← readIf (flagAt flags 2) readName r
      finish (.openSession lease ordered label) r
    else none
  | 2 => if flagsWithin flags 0 then finish .resume body else none
  | 3 => if flagsWithin flags 0 then finish .renew body else none
  | 4 => if flagsWithin flags 0 then finish .close body else none
  | 5 =>  -- CREATE: kind, name, open-if-exists; rank, shared capacity, ceiling and initial value optional (1.4)
    if flagsWithin flags 4 then do
      let (kind, r) ← readByte body
      let (name, r) ← readName r
      let (oie, r) ← readFlag r
      let (rank, r) ← readIf (flagAt flags 0) readByte r
      let (cap, r) ← readIf (flagAt flags 1) readByte r
      let (ceil, r) ← readIf (flagAt flags 2) readU32 r
      let (init, r) ← readIf (flagAt flags 3) readU32 r
      finish (.create kind name oie rank cap ceil init) r
    else none
  | 6 => if flagsWithin flags 0 then do
      let (name, r) ← readName body
      finish (.find name) r
    else none
  | 7 => if flagsWithin flags 0 then do
      let (h, r) ← readHandle body
      let (force, r) ← readFlag r
      finish (.delete h force) r
    else none
  | 8 => if flagsWithin flags 0 then do
      let (h, r) ← readHandle body
      finish (.describe h) r
    else none
  | 9 => if flagsWithin flags 0 then do
      let (start, r) ← readByte body
      finish (.listObjects start) r
    else none
  | 10 =>  -- ACQUIRE (R189)
    if flagsWithin flags 1 then do
      let (h, r) ← readHandle body
      let (mode, r) ← readByte r
      let (tr, r) ← readFlag r
      let (dl, r) ← readIf (flagAt flags 0) readU16 r
      finish (.acquire h mode tr dl) r
    else none
  | 11 => if flagsWithin flags 0 then do
      let (h, r) ← readHandle body
      let (repaired, r) ← readFlag r
      finish (.release h repaired) r
    else none
  | 12 => if flagsWithin flags 0 then do
      let (w, r) ← readHandle body
      finish (.cancel w) r
    else none
  | 13 => if flagsWithin flags 0 then do
      let (h, r) ← readHandle body
      finish (.countRead h) r
    else none
  | 14 => if flagsWithin flags 0 then do
      let (h, r) ← readHandle body
      let (v, r) ← readU32 r
      finish (.countSet h v) r
    else none
  | 15 => if flagsWithin flags 0 then do
      let (h, r) ← readHandle body
      let (d, r) ← readI32 r
      finish (.countAdd h d) r
    else none
  | 16 => if flagsWithin flags 0 then do
      let (h, r) ← readHandle body
      let (e, r) ← readU32 r
      let (v, r) ← readU32 r
      finish (.countSwap h e v) r
    else none
  | 17 => if flagsWithin flags 0 then do
      let (h, r) ← readHandle body
      let (v, r) ← readU32 r
      finish (.countRaise h v) r
    else none
  | 18 => if flagsWithin flags 0 then do
      let (h, r) ← readHandle body
      let (v, r) ← readU32 r
      finish (.countLower h v) r
    else none
  | 19 =>  -- AWAIT (R189)
    if flagsWithin flags 1 then do
      let (h, r) ← readHandle body
      let (t, r) ← readU32 r
      let (o, r) ← readByte r
      let (dl, r) ← readIf (flagAt flags 0) readU16 r
      finish (.await h t (flagAt o 0) (flagAt o 1) dl) r
    else none
  | 20 => if flagsWithin flags 1 then do
      let (start, r) ← readByte body
      let (want, r) ← readIf (flagAt flags 0) readFlag r
      finish (.listSessions start want) r
    else none
  | 21 => if flagsWithin flags 0 then finish .identify body else none
  | 22 => if flagsWithin flags 0 then do
      let (id, r) ← readByte body
      finish (.paramGet id) r
    else none
  | 23 => if flagsWithin flags 0 then do
      let (id, r) ← readByte body
      let (v, r) ← readU32 r
      finish (.paramSet id v) r
    else none
  | 24 => if flagsWithin flags 0 then do
      let (g, r) ← readByte body
      let (clear, r) ← readFlag r
      finish (.statsGet g clear) r
    else none
  | 25 => if flagsWithin flags 0 then do
      let (l, r) ← readByte body
      let (cmd, r) ← readByte r
      finish (.linkControl l cmd) r
    else none
  | 26 => if flagsWithin flags 0 then do
      let (sc, r) ← readByte body
      finish (.deviceReset sc) r
    else none
  | _ => none

/-! ### Writing message bodies -/

/-- A one-byte number. -/
def byteOf (n : Nat) : Byte := BitVec.ofNat 8 n

/-- A two-byte unsigned field, least significant byte first (R188). -/
def putU16 (n : Nat) : List Byte := [byteOf n, byteOf (n / 256)]

/-- A four-byte unsigned field, least significant byte first (R188). -/
def putU32 (n : Nat) : List Byte := [byteOf n, byteOf (n / 256), byteOf (n / 65536), byteOf (n / 16777216)]

/-- A handle or wait id: index byte, then generation byte (R188). -/
def putHandle (h : Handle) : List Byte := [h.index, h.gen]

/-- A name or label: length byte, then the bytes (R188). -/
def putName (n : List Byte) : List Byte := byteOf n.length :: n

/-- The spec's index of a session entry, 1..32 (R82). -/
def sessionNumber (j : SessIx) : Nat := j.val + 1

/-- The body bytes of a reply: its status, then its fields (R130, R188, R189). -/
def ReplyBody.bytes : ReplyBody → List Byte
  | .statusOnly st => [st.code]
  | .openSession st h lease e => st.code :: (putHandle h ++ putU16 lease ++ putU16 e.toNat)
  | .resume st lease holds lw cw q oldest =>
    st.code :: (putU16 lease ++ [byteOf holds, byteOf lw, byteOf cw, byteOf q] ++ putU32 oldest)
  | .renew st rem => st.code :: putU16 rem
  | .close st a b c => [st.code, byteOf a, byteOf b, byteOf c]
  | .create st h k ex => st.code :: (putHandle h ++ [k.code, flagBit 0 ex])
  | .find st h k => st.code :: (putHandle h ++ [k.code])
  | .delete st w r => [st.code, byteOf w, byteOf r]
  | .describe st .none => st.code :: KindField.none.code :: putName []
  | .describe st (.lock name mode holders qlen rank cap ab) =>
    st.code :: KindField.lock.code :: (putName name ++ [mode.code, byteOf holders.length]
      ++ holders.map (fun j => byteOf (sessionNumber j)) ++ [byteOf qlen, rank, byteOf cap, flagBit 0 ab])
  | .describe st (.counter name v ceil n) =>
    st.code :: KindField.counter.code :: (putName name ++ putU32 v ++ putU32 ceil ++ [byteOf n])
  | .listObjects st es next =>
    st.code :: byteOf es.length :: byteOf next ::
      es.flatMap fun e => putHandle e.handle ++ [e.kind.code, flagBit 0 e.faulted]
  | .acquire st ab w pos => st.code :: flagBit 0 ab :: (putHandle w ++ [byteOf pos])
  | .release st g ab => [st.code, byteOf g, flagBit 0 ab]
  | .cancel st h g => st.code :: (putHandle h ++ [byteOf g])
  | .count st old new ch rel => st.code :: (putU32 old ++ putU32 new ++ [flagBit 0 ch, byteOf rel])
  | .await st old new ch rel w =>
    st.code :: (putU32 old ++ putU32 new ++ [flagBit 0 ch, byteOf rel] ++ putHandle w)
  | .listSessions st es next label =>
    st.code :: byteOf es.length :: byteOf next ::
      (es.flatMap (fun e => putHandle e.handle ++
        [flagBit 0 e.orphaned, byteOf e.bound.val, byteOf e.holds, byteOf e.waits, byteOf e.labelLen]) ++ label)
  | .identify st e cause =>
    st.code :: (putU16 Config.vendorCode ++ putU16 Config.partCode ++ [byteOf Config.revision] ++ putU16 e.toNat
      ++ [cause.code] ++ putU16 Config.linkCount ++ putU16 Config.sessionCount ++ putU16 Config.objectCount
      ++ putU16 Config.waitCount ++ putU16 Config.slotCount ++ putU16 Config.replayDepth
      ++ putU16 Config.receiveDepth)
  | .identifyRefused st => st.code :: List.replicate 22 0
  | .param st id v => st.code :: byteOf id :: putU32 v
  | .stats st g cs => st.code :: byteOf g :: cs.flatMap putU32
  | .linkControl st l ps => [st.code, byteOf l, ps.code]
  | .deviceReset st sc e => st.code :: byteOf sc :: putU16 e.toNat

/-- A message of the part, its body length field the length of its body (R117). -/
def mkMessage (kind code flags : Byte) (tag : Tag) (session : Handle) (body : List Byte) : Message :=
  ⟨kind, code, flags, byteOf body.length, tag, session, body⟩

/-- The message of a reply: no reply body of the part has an optional field (R130, R188). -/
def Reply.message (r : Reply) : Message := mkMessage 2 r.code 0 r.tag r.session r.body.bytes

/-- The detail of a notice (R189); TIMED_OUT has none. -/
def NoticeKind.detail? : NoticeKind → Option Nat
  | .granted ab => some (if ab then 1 else 0)
  | .reached v => some v
  | .timedOut => none
  | .withdrawn w => some w.code
  | .revoked w => some w.code

/-- The message of a notice of the session named by `h` (R111, R189). -/
def Notice.message (n : Notice) (h : Handle) : Message :=
  let flags := flagBit 0 n.wait.isSome ||| flagBit 1 n.kind.detail?.isSome
  let tag := match n.wait with
    | some (_, t) => t
    | none => 0
  let waitBytes := match n.wait with
    | some (w, _) => putHandle w
    | none => []
  let detail := match n.kind.detail? with
    | some d => putU32 d
    | none => []
  mkMessage 3 n.kind.code flags tag h (putU32 n.serial ++ putHandle n.object ++ waitBytes ++ detail)

/-- The body of an alert (R173, R188). -/
def Alert.bytes : Alert → List Byte
  | .linkUp l => [byteOf l.val]
  | .linkFailed l w => [byteOf l.val, w.code]
  | .sessionExpired h n => putHandle h ++ [byteOf n]
  | .sessionFaulted h => putHandle h
  | .recordFaulted h => putHandle h
  | .deviceReset sc e => sc.code :: putU16 e.toNat

/-- The message of an alert: tag and session 0000h (R175). -/
def Alert.message (a : Alert) : Message := mkMessage 4 a.code 0 0 Handle.zero a.bytes

/-- The reply body of a code with a status and every other field zero; OPEN also carries the device epoch, and a code
outside the catalogue the status alone (R125). That holds of a LINK_CONTROL too: the link and the port state of R176 belong
to the refusals that the management unit makes, `linkRefusal` (log entry 43). -/
def refusal (code : Byte) (epoch : BitVec 16) (st : Status) : ReplyBody :=
  match code.toNat with
  | 1 => .openSession st Handle.zero 0 epoch
  | 2 => .resume st 0 0 0 0 0 0
  | 3 => .renew st 0
  | 4 => .close st 0 0 0
  | 5 => .create st Handle.zero .none false
  | 6 => .find st Handle.zero .none
  | 7 => .delete st 0 0
  | 8 => .describe st .none
  | 9 => .listObjects st [] 0
  | 10 => .acquire st false Handle.zero 0
  | 11 => .release st 0 false
  | 12 => .cancel st Handle.zero 0
  | 13 | 14 | 15 | 16 | 17 | 18 => .count st 0 0 false 0
  | 19 => .await st 0 0 false 0 Handle.zero
  | 20 => .listSessions st [] 0 []
  | 21 => .identifyRefused st
  | 22 | 23 => .param st 0 0
  | 24 => .stats st 0 []
  | 25 => .linkControl st 0 .off
  | 26 => .deviceReset st 0 0
  | _ => .statusOnly st

end Sys2Proof.Machine
end

