-- ==== Sys2Proof/Machine/Passes.lean ====
section
/-! DEFINITION. What the engine does inside one event, shared by many commands: grants and the grant pass (R29, R30),
the release pass (R59), withdrawals and revocations (R11, R43), the handling of an uncorrectable record (R180 to R182),
and the end of a session (R90, R92). -/

namespace Sys2Proof.Machine

/-! ### Holders -/

/-- Mode of a lock granted to a waiter or request of the kind (R18). -/
def WaitKind.lockMode : WaitKind → LockMode
  | .exclusive => .exclusive
  | _ => .shared

/-- A session joins the holders, and the mode changes (R18). -/
def LockRecord.addHolder (l : LockRecord) (j : SessIx) (m : LockMode) : LockRecord :=
  { l with holders := l.holders ++ [j], mode := m }

/-- A session leaves the holders, wherever it stands; a lock left without holders is FREE (R18). -/
def LockRecord.removeHolder (l : LockRecord) (j : SessIx) : LockRecord :=
  { l with holders := l.holders.erase j, mode := if l.holders.erase j = [] then .free else l.mode }

/-- A session that failed leaves the holders: the abandoned flag is set (R35). -/
def LockRecord.abandonHolder (l : LockRecord) (j : SessIx) : LockRecord :=
  { l.removeHolder j with abandoned := true }

/-- There is room for one more sharer (R25, R29). -/
def LockRecord.sharedRoom (l : LockRecord) : Bool :=
  l.mode == .free || (l.mode == .shared && decide (l.holders.length < l.capacity))

/-- A request or waiter of this kind can hold the lock now: EXCLUSIVE a FREE lock, SHARED a FREE lock or a SHARED one
with fewer holders than its capacity (R25, R29). -/
def LockRecord.grantable (l : LockRecord) (k : WaitKind) : Bool :=
  match k with
  | .exclusive => l.mode == .free
  | .shared => l.sharedRoom
  | .atLeast _ _ => false

/-! ### The grant pass -/

/-- Grant the waiter `id` (record `r` at `w`) at the head of the queue of lock `i`, whose record is `l` (R30). -/
def grantOne (i : ObjIx) (l : LockRecord) (w : WaitIx) (id : Handle) (r : WaitRecord) (c : Coord) : Coord :=
  let c := c.setLock i { l.addHolder r.owner r.kind.lockMode with queue := l.queue.tail }
  let c := c.modSess r.owner fun s => { s.lowerCount r.kind with holds := s.holds ++ [r.object] }
  let c := c.pushWaitNotice (.granted l.abandoned) id r
  c.freeWait w

/-- The grant pass of lock `i` over at most `n` queue entries, with the number of grants it made (R29). An owner whose
record proves uncorrectable is torn down, and the pass tests the new head (R32). `bar` is the session whose CLOSE runs
the pass, if one does: it receives no grant (R38, R90), and a pass that finds its wait at the head ends there (the
model's choice, log entry 34). A pass that a nested fault teardown runs (R182) may find at the head a wait of a session
that an outer teardown is tearing down, whose entry is FREE already and whose wait is not yet freed: the pass grants
nothing there and goes to no waiter behind it, and those are tested when the outer teardown frees that wait (the model's
choice, log entry 42). The loop comes to that same head again until its count runs out. -/
def grantLoop (H : Handler) (bar : Option SessIx) (i : ObjIx) : Nat → Coord → Nat × Coord
  | 0, c => (0, c)
  | n + 1, c =>
    match c.lock? i with
    | none => (0, c)
    | some l =>
      match l.queue with
      | [] => (0, c)
      | id :: _ =>
        match c.findWait id with
        | none => (0, c)
        | some (w, r) =>
          if bar ≠ some r.owner ∧ l.grantable r.kind then
            match readSess H r.owner c with
            | (none, c) => grantLoop H bar i n c
            | (some _, c) =>
              let (k, c) := grantLoop H bar i n (grantOne i l w id r c)
              (k + 1, c)
          else (0, c)

/-- The grant pass of lock `i`, using its record as already read (R29, R32). -/
def grantPass (H : Handler) (bar : Option SessIx) (i : ObjIx) (c : Coord) : Nat × Coord :=
  match c.lock? i with
  | some l => grantLoop H bar i l.queue.length c
  | none => (0, c)

/-! ### The release pass -/

/-- Release the waiter `id` (record `r` at `w`) of counter `i`, whose record is `k` (R59). -/
def releaseOne (i : ObjIx) (k : CounterRecord) (w : WaitIx) (id : Handle) (r : WaitRecord) (threshold : Nat)
    (take : Bool) (c : Coord) : Coord :=
  let value := if take then k.value - threshold else k.value
  let c := c.setCounter i { k with waiters := k.waiters.erase id, value := value }
  let c := c.modSess r.owner fun s => s.lowerCount r.kind
  let c := c.pushWaitNotice (.reached value) id r
  c.freeWait w

/-- Test one entry of the waiter list of counter `i` as the scan reaches it (R59). An owner whose record proves
uncorrectable is torn down, and its waiter is not released (R60). -/
def releaseStep (H : Handler) (i : ObjIx) (acc : Nat × Coord) (id : Handle) : Nat × Coord :=
  match acc.2.counter? i, acc.2.findWait id with
  | some k, some (w, r) =>
    match r.kind with
    | .atLeast threshold take =>
      if threshold ≤ k.value then
        match readSess H r.owner acc.2 with
        | (none, c) => (acc.1, c)
        | (some _, c) => (acc.1 + 1, releaseOne i k w id r threshold take c)
      else acc
    | _ => acc
  | _, _ => acc

/-- The release pass of counter `i`: one scan of its waiter list in arrival order, with the number released (R59). -/
def releasePass (H : Handler) (i : ObjIx) (c : Coord) : Nat × Coord :=
  match c.counter? i with
  | some k => k.waiters.foldl (releaseStep H i) (0, c)
  | none => (0, c)

/-- The pass of object `i` where it runs apart from any reading of the object: the record is read first (R32, R60). -/
def objectPass (H : Handler) (i : ObjIx) (c : Coord) : Coord :=
  match readObj H i c with
  | (some ⟨_, .lock _⟩, c) => (grantPass H none i c).2
  | (some ⟨_, .counter _⟩, c) => (releasePass H i c).2
  | (none, c) => c

/-! ### Withdrawals and revocations -/

/-- Withdraw the wait at `w`: WITHDRAWN to its owner, whose wait count falls, and the record is freed (R11, R43, R64).
An owner whose record proves uncorrectable is torn down and gets no notice. -/
def withdrawOne (H : Handler) (why : RemovalReason) (w : WaitIx) (acc : Nat × Coord) : Nat × Coord :=
  match (acc.2.wait w).body with
  | none => acc
  | some r =>
    match readSess H r.owner acc.2 with
    | (none, c) => (acc.1, c)
    | (some _, c) =>
      let id := waitHandle w (c.wait w).gen
      let c := c.pushWaitNotice (.withdrawn why) id r
      let c := c.modSess r.owner fun s => s.lowerCount r.kind
      (acc.1 + 1, (c.dequeue r.object.objIx id).freeWait w)

/-- Session `j` leaves the holders of lock `i`, if `i` is a lock whose record can be used. -/
def dropHolder (i : ObjIx) (j : SessIx) (c : Coord) : Coord :=
  match c.lock? i with
  | some l => c.setLock i (l.removeHolder j)
  | none => c

/-- Revoke the lock named `h` from session `j`, if it holds it: the handle leaves the hold list, and REVOKED is queued
(R11, R43). A session whose record proves uncorrectable is torn down and gets no notice. -/
def revokeOne (H : Handler) (why : RemovalReason) (h : Handle) (j : SessIx) (acc : Nat × Coord) : Nat × Coord :=
  match readSess H j acc.2 with
  | (none, c) => (acc.1, c)
  | (some s, c) =>
    if h ∈ s.holds then
      let c := c.modSess j fun s => { s with holds := s.holds.erase h }
      let c := c.pushNotice j (.revoked why) h none none
      (acc.1 + 1, dropHolder h.objIx j c)
    else (acc.1, c)

/-! ### Uncorrectable records -/

/-- How the teardowns of an event pass the locks they release: `on` says on which objects a pass runs, and `bar` is the
session that is closing in the event, if one is. -/
structure PassRule where
  on : ObjIx → Bool
  bar : Option SessIx

/-- An object record proves uncorrectable (R180, R43, R64): the entry becomes FAULTED, the engine reports it, every wait
naming the handle is withdrawn in ascending wait index, and the handle is revoked from every hold list in ascending
session index. The record is not read, and no pass runs. -/
def faultObject (H : Handler) (i : ObjIx) (c : Coord) : Coord :=
  let h := c.objHandle i
  let c := (c.setObjBody i .faulted).report (.recordFaulted h)
  let c := scan (indices 128)
    (fun w c => if ((c.wait w).body.map (·.object)) = some h then (withdrawOne H .faulted w (0, c)).2 else c) c
  scan (indices 32) (fun j c => (revokeOne H .faulted h j (0, c)).2) c

/-- The first scan of a fault teardown at object `i` (R41): a lock held by the session loses that holder and is marked
abandoned, and its grant pass runs where passes run. -/
def teardownHolding (H : Handler) (P : PassRule) (j : SessIx) (i : ObjIx) (c : Coord) : Coord :=
  match readObj H i c with
  | (some ⟨_, .lock l⟩, c) =>
    if j ∈ l.holders then
      let c := c.setLock i (l.abandonHolder j)
      if P.on i then (grantPass H P.bar i c).2 else c
    else c
  | (_, c) => c

/-- The second scan of a fault teardown at wait record `w` (R41): a wait of the session is freed silently; a lock wait
leaves its queue first, and the lock's grant pass runs where passes run. It is this pass that reaches the waiters which
a nested teardown's pass left behind the wait (log entry 42). -/
def teardownWait (H : Handler) (P : PassRule) (j : SessIx) (w : WaitIx) (c : Coord) : Coord :=
  match (c.wait w).body with
  | none => c
  | some r =>
    if r.owner = j then
      let i := r.object.objIx
      let c := ((readObj H i c).2.dequeue i (waitHandle w (c.wait w).gen)).freeWait w
      if r.kind.isLock && P.on i then (grantPass H P.bar i c).2 else c
    else c

/-- A session record proves uncorrectable (R181, R99, R41). The entry is FREE before anything is settled (R182); its
generation advances at the end. -/
def faultSession (H : Handler) (P : PassRule) (j : SessIx) (c : Coord) : Coord :=
  let g := (c.sess j).gen
  let c := (c.setSess j ⟨g, none⟩).report (.sessionFaulted (Machine.sessHandle j g))
  let c := scan (indices 256) (teardownHolding H P j) c
  let c := scan (indices 128) (teardownWait H P j) c
  (c.setBox j ⟨none, []⟩).setSess j ⟨advanceGen g, none⟩

/-- The handling of an uncorrectable record, with the handlings it meets on its way handled at once by the same rules
(R182); `P` says how a teardown runs its grant passes. A chain has at most 288 links, so the depth given below is never
used up. -/
def faultHandler (P : PassRule) : Nat → Handler
  | 0 => fun _ c => c
  | n + 1 => fun d c =>
    match d with
    | .obj i => faultObject (faultHandler P n) i c
    | .sess j => faultSession (faultHandler P n) P j c

/-- Fault handling in an event whose teardowns run their grant passes (R41). -/
def handler : Handler := faultHandler ⟨fun _ => true, none⟩ Config.faultDepth

/-- Fault handling within steps 1 to 3 of a coarse tick, where no pass runs (R77). -/
def deferredHandler : Handler := faultHandler ⟨fun _ => false, none⟩ Config.faultDepth

/-- Fault handling within a force-deletion of object `i`: no pass runs on that object (R11). -/
def handlerSkipping (i : ObjIx) : Handler := faultHandler ⟨fun k => k != i, none⟩ Config.faultDepth

/-- Fault handling within the CLOSE of session `j`: no pass grants to `j` (R38, R90). -/
def handlerClosing (j : SessIx) : Handler := faultHandler ⟨fun _ => true, some j⟩ Config.faultDepth

/-! ### The orderly end of a session -/

/-- Release one hold of session `j`, as CLOSE (R38) or as expiry teardown (R40) does: `abandon` sets the lock's
abandoned flag, `pass` runs the lock's grant pass. A lock found uncorrectable here has revoked the hold instead. -/
def releaseHold (H : Handler) (abandon pass : Bool) (j : SessIx) (acc : Nat × Coord) (h : Handle) : Nat × Coord :=
  match readObj H h.objIx acc.2 with
  | (some ⟨_, .lock l⟩, c) =>
    let c := c.setLock h.objIx (if abandon then l.abandonHolder j else l.removeHolder j)
    let c := c.modSess j fun s => { s with holds := s.holds.erase h }
    (acc.1 + 1, if pass then (grantPass H (some j) h.objIx c).2 else c)
  | (_, c) => (acc.1, c)

/-- Remove the wait at `w` without a notice, if it is a lock wait (`lockWait`) or a counter wait of session `j`
(R37, R61). The grant pass of a lock runs where `pass` says so. -/
def removeOwnWait (H : Handler) (lockWait pass : Bool) (j : SessIx) (acc : Nat × Coord) (w : WaitIx) : Nat × Coord :=
  match (acc.2.wait w).body with
  | none => acc
  | some r =>
    if r.owner = j ∧ r.kind.isLock = lockWait then
      let i := r.object.objIx
      match readObj H i acc.2 with
      | (none, c) => (acc.1, c)
      | (some _, c) =>
        let c := c.dequeue i (waitHandle w (c.wait w).gen)
        let c := (c.modSess j fun s => s.lowerCount r.kind).freeWait w
        (acc.1 + 1, if lockWait && pass then (grantPass H (some j) i c).2 else c)
    else acc

/-- The five steps that end a session (R90, R92): holds released in the reverse of grant order, lock waits and then
counter waits removed in ascending wait index, the notice queue discarded, and the entry freed. Answers the numbers of
holds released, waits removed and notices discarded. None of its passes grants to the session that ends, so the hold
list as it stands at the start is the whole of it (R38, R90). -/
def endSession (H : Handler) (abandon pass : Bool) (j : SessIx) (c : Coord) : (Nat × Nat × Nat) × Coord :=
  let holds := match c.sessRecord? j with
    | some s => s.holds.reverse
    | none => []
  let (released, c) := holds.foldl (releaseHold H abandon pass j) (0, c)
  let (locks, c) := (indices 128).foldl (removeOwnWait H true pass j) (0, c)
  let (counters, c) := (indices 128).foldl (removeOwnWait H false pass j) (0, c)
  let discarded := (c.box j).queue.length
  let c := c.setBox j ⟨none, []⟩
  ((released, locks + counters, discarded), c.setSess j ⟨advanceGen (c.sess j).gen, none⟩)

end Sys2Proof.Machine
end

