-- ==== Sys2Proof/Machine/Path.lean ====
section
/-! DEFINITION. The request path: the session check and the generic checks (R84, R123), the taking of a request into a
slot (R121), presentation and arbitration (R127 to R129), and the running of a request by the engine or the management
unit. -/

namespace Sys2Proof.Machine

/-! ### Checks -/

/-- The session check (R84): RESUME needs an ORPHANED session, any other request an OPEN one bound to its arrival
link. -/
def sessionCheck (resume : Bool) (h : Handle) (arrival : Link) (c : Coord) : Except Status SessIx :=
  match h.sessIx? with
  | none => .error .noSession
  | some j =>
    match (c.sess j).body with
    | none => .error .noSession
    | some b =>
      if (c.sess j).gen ≠ h.gen then .error .noSession
      else if resume then (if b.orphaned then .ok j else .error .inUse)
      else if b.orphaned || b.bound != arrival then .error .notBound
      else .ok j

/-- Device requests name no session (7.2). -/
def Request.isDevice (r : Request) : Bool := r.route == .management

/-- Requests accepted only from the management link (R123 step 6). -/
def Request.needsMgmtLink : Request → Bool
  | .paramSet .. => true
  | .linkControl .. => true
  | .deviceReset _ => true
  | .statsGet _ clear => clear
  | _ => false

/-- The generic checks on a message that arrived on link `p` (R123, R124): the first that fails gives the status. -/
def genericChecks (mgmtLink : Nat) (p : Link) (m : Message) (c : Coord) : Except Status Request :=
  if m.bodyLen.toNat > Config.maxBody ∨ m.bodyLen.toNat ≠ m.body.length then .error .malformed
  else if !inCatalogue m.code then .error .unknownRequest
  else
    match parseRequest m.code m.flags m.body with
    | none => .error .malformed
    | some req =>
      if req.isDevice then
        if m.session ≠ Handle.zero then .error .malformed
        else if req.needsMgmtLink && p.val != mgmtLink then .error .notPermitted
        else .ok req
      else
        match req with
        | .openSession .. => .ok req
        | _ =>
          match sessionCheck (req == .resume) m.session p c with
          | .ok _ => .ok req
          | .error st => .error st

/-! ### Taking messages from the receive buffer -/

/-- The message kind REQUEST (R188). -/
def kindRequest : Byte := 1

/-- A message leaves the head of the receive buffer: its place is freed and T rises by one (R143). -/
def Port.takeHead (x : Port) : Port := { x with rxBuffer := x.rxBuffer.tail, taken := x.taken + 1 }

/-- The lowest-numbered FREE slot (R121). -/
def Dispatcher.freeSlot? (d : Dispatcher) : Option SlotIx := (indices 8).find? fun k => (d.slot k).body == .free

/-- What a slot holds once the generic checks have run: the request PENDING, or its refusal FINISHED (R123, R125). -/
def checkedSlot (p : Link) (m : Message) (s : State) : SlotBody :=
  match genericChecks s.mgmt.params.mgmtLink p m s.coord with
  | .ok req => .pending ⟨m.code, m.tag, m.session⟩ req req.route
  | .error st => .finished ⟨m.code, m.tag, m.session, refusal m.code s.mgmt.epoch st⟩

/-- The request `m` at the head of the receive buffer of port `p` is taken into slot `k` (R121). -/
def takeInto (p : Link) (k : SlotIx) (m : Message) (s : State) : State :=
  let d := s.disp p
  let d := { d.setSlot k ⟨(d.slot k).occupancy + 1, checkedSlot p m s⟩ with queue := d.queue ++ [k] }
  (s.modPort p Port.takeHead).setDisp p d

/-- The dispatcher may take messages: its port is UP and no reset is pending (R121, R134). -/
def mayTake (p : Link) (s : State) : Bool := (s.port p).state == .up && s.mgmt.reset.isNone

/-- Take the REQUEST at the head of the receive buffer, where there is one and a slot is FREE (R121, R122). -/
def takeHeadRequest (p : Link) (s : State) : State :=
  if mayTake p s then
    match (s.port p).rxBuffer, (s.disp p).freeSlot? with
    | m :: _, some k => if m.kind = kindRequest then takeInto p k m s else s
    | _, _ => s
  else s

/-! ### Presentation and arbitration -/

/-- The dispatcher presents while its port is UP and no reset is pending (R127). It learns that its port is no longer UP
by taking the failure report (R133). -/
def presents (p : Link) (s : State) : Bool :=
  ((s.port p).state == .up || (s.port p).failDispatcher) && s.mgmt.reset.isNone

/-- A request in a slot, with the slot and the header fields its reply returns. -/
structure Presented where
  link : Link
  slot : SlotIx
  header : RequestHeader
  request : Request
  route : Route
  deriving DecidableEq, Repr

/-- The PENDING request of slot `k` of a dispatcher. -/
def Dispatcher.pendingAt? (d : Dispatcher) (p : Link) (k : SlotIx) : Option Presented :=
  match (d.slot k).body with
  | .pending hdr req route => some ⟨p, k, hdr, req, route⟩
  | _ => none

/-- The request port `p` presents: the oldest PENDING one of its reply queue (R127). -/
def presented? (p : Link) (s : State) : Option Presented :=
  if presents p s then (s.disp p).queue.findSome? ((s.disp p).pendingAt? p) else none

/-- The ports in the cyclic order that begins after the last served one (R128). -/
def cyclicAfter (last : Link) : List Link := [last + 1, last + 2, last + 3, last + 4]

/-- The request a unit takes next: that of the first port in cyclic order that presents one to it (R128, R129). -/
def offer? (unit : Route) (last : Link) (s : State) : Option Presented :=
  (cyclicAfter last).findSome? fun p => (presented? p s).filter fun r => r.route == unit

/-! ### Running a request -/

/-- What a request's own rule may read beside the tables: its arrival link and slot, its header, the device epoch and
DEFAULT_LEASE. -/
structure RequestContext where
  link : Link
  slotRef : SlotRef
  header : RequestHeader
  epoch : BitVec 16
  defaultLease : Nat
  deriving DecidableEq, Repr

/-- The context of a presented request. -/
def requestContext (r : Presented) (s : State) : RequestContext where
  link := r.link
  slotRef := ⟨r.link, r.slot, ((s.disp r.link).slot r.slot).occupancy⟩
  header := r.header
  epoch := s.mgmt.epoch
  defaultLease := s.mgmt.params.defaultLease

/-- The unit writes the reply into the request's slot and makes the slot FINISHED (R127). -/
def finishRequest (r : Presented) (body : ReplyBody) (s : State) : State :=
  s.modDisp r.link fun d =>
    d.setSlot r.slot ⟨(d.slot r.slot).occupancy, .finished ⟨r.header.code, r.header.tag, r.header.session, body⟩⟩

/-- The engine executes a request over its tables. -/
abbrev EngineBody := RequestContext → Coord → ReplyBody × Coord

/-- The engine takes the request it is offered, executes it whole and finishes its slot (R127, R128). -/
def runEngine (r : Presented) (body : EngineBody) (s : State) : State :=
  let (reply, c) := body (requestContext r s) s.coord
  finishRequest r reply { s with coord := c, engineLast := r.link }

/-- A request command of the engine: port `p`'s request is taken if it is the one the arbiter chooses and is of the
command's kind; a command for which no such request is presented has nothing to take. -/
def engineRequest (p : Link) (kind : Request → Option EngineBody) (s : State) :
    Host.Outcome State Fault Refusal :=
  match offer? .engine s.engineLast s with
  | none => .next s
  | some r =>
    if r.link = p then
      match kind r.request with
      | some body => .next (runEngine r body s)
      | none => .next s
    else .next s

/-- The management unit executes a request over the whole state. -/
abbrev MgmtBody := RequestContext → State → ReplyBody × State

/-- The management unit takes the request it is offered, repeats the management-link check, executes it whole and
finishes its slot (R129). -/
def runMgmt (r : Presented) (body : MgmtBody) (refused : State → ReplyBody) (s : State) : State :=
  let ctx := requestContext r s
  let s := s.setMgmt { s.mgmt with lastServed := r.link }
  let (reply, s) :=
    if r.request.needsMgmtLink && r.link.val != s.mgmt.params.mgmtLink then (refused s, s) else body ctx s
  finishRequest r reply s

/-- A request command of the management unit. `refused` is the reply of a request whose link is no longer the management
link. -/
def mgmtRequest (p : Link) (kind : Request → Option (MgmtBody × (State → ReplyBody))) (s : State) :
    Host.Outcome State Fault Refusal :=
  match offer? .management s.mgmt.lastServed s with
  | none => .next s
  | some r =>
    if r.link = p then
      match kind r.request with
      | some (body, refused) => .next (runMgmt r body refused s)
      | none => .next s
    else .next s

/-- Renew the lease of session `j`: the engine reads the record, and the remaining lease becomes the lease period (R85).
Answers nothing where the record proves uncorrectable. -/
def renewLease (j : SessIx) (c : Coord) : Option SessRecord × Coord :=
  match readSess handler j c with
  | (none, c) => (none, c)
  | (some r, c) => (some r, c.setSessRecord j { r with remaining := r.period })

/-- The engine's part of every session request: the session check again, then the renewal, then the request's own rule
(R85). -/
def sessionRequest (resume : Bool) (body : SessIx → RequestContext → Coord → ReplyBody × Coord) : EngineBody :=
  fun ctx c =>
    match sessionCheck resume ctx.header.session ctx.link c with
    | .error st => (refusal ctx.header.code ctx.epoch st, c)
    | .ok j =>
      match renewLease j c with
      | (none, c) => (refusal ctx.header.code ctx.epoch .faulted, c)
      | (some _, c) => body j ctx c

end Sys2Proof.Machine
end

