-- ==== Sys2Proof/Machine/Objects.lean ====
section
/-! DEFINITION. The object commands (chapter 1): CREATE, FIND, DELETE, DESCRIBE and LIST_OBJECTS. -/

namespace Sys2Proof.Machine

/-- Kind field of an object (R188). -/
def ObjKind.field : ObjKind → KindField
  | .lock _ => .lock
  | .counter _ => .counter

/-- What a handle resolves to by the header of its entry (R4). -/
inductive Resolution where
  | noObject
  | faulted
  | live
  deriving DecidableEq, Repr

/-- Resolution of an object handle, on the header alone (R4). -/
def Coord.resolve (c : Coord) (h : Handle) : Resolution :=
  if h.gen = 0 ∨ h.gen ≠ (c.obj h.objIx).gen then .noObject
  else
    match (c.obj h.objIx).body with
    | .free => .noObject
    | .faulted => .faulted
    | .live _ _ => .live

/-- Resolve a handle and read the record it names (R4): the record, or the status of the refusal. -/
def resolveRecord (h : Handle) (c : Coord) : Except Status ObjRecord × Coord :=
  match c.resolve h with
  | .noObject => (.error .noObject, c)
  | .faulted => (.error .faulted, c)
  | .live =>
    match readObj handler h.objIx c with
    | (some r, c) => (.ok r, c)
    | (none, c) => (.error .faulted, c)

/-! ### Names -/

/-- One comparison of the name lookup, at entry `i` (R5): a LIVE record is read; one that proves uncorrectable becomes
FAULTED and does not match. -/
def lookupStep (name : List Byte) (acc : Option (ObjIx × KindField) × Coord) (i : ObjIx) :
    Option (ObjIx × KindField) × Coord :=
  match readObj handler i acc.2 with
  | (some r, c) => (if acc.1.isNone ∧ r.name = name then some (i, r.kind.field) else acc.1, c)
  | (none, c) => (acc.1, c)

/-- The name lookup, over every LIVE entry: the entry that matches, with its kind (R5). The records are read in ascending
index, which orders the reports of those that prove uncorrectable (R182); R5 gives no order (the model's choice, log
entry 20). -/
def nameLookup (name : List Byte) (c : Coord) : Option (ObjIx × KindField) × Coord :=
  (indices 256).foldl (lookupStep name) (none, c)

/-- A name's length is in 1..16 (R5). -/
def nameLengthOk (name : List Byte) : Bool := decide (1 ≤ name.length ∧ name.length ≤ 16)

/-! ### CREATE -/

/-- The field checks of CREATE, in the order of R6: the first that fails gives the status. -/
def createChecks (kind : Byte) (name : List Byte) (rank cap : Option Byte) (ceil init : Option Nat) : Option Status :=
  if kind ≠ KindField.lock.code ∧ kind ≠ KindField.counter.code then some .range
  else if kind = KindField.lock.code ∧ (ceil.isSome ∨ init.isSome) then some .malformed
  else if kind = KindField.counter.code ∧ (rank.isSome ∨ cap.isSome) then some .malformed
  else if !nameLengthOk name then some .range
  else if cap.any fun c => decide (c.toNat < 1 ∨ 8 < c.toNat) then some .range
  else if ceil.any fun c => decide (c < 1) then some .range
  else if init.any fun v => decide (ceil.getD Config.maxU32 < v) then some .range
  else none

/-- The record CREATE writes (R8). -/
def newRecord (kind : Byte) (name : List Byte) (rank cap : Option Byte) (ceil init : Option Nat) : ObjRecord where
  name := name
  kind :=
    if kind = KindField.lock.code then
      .lock { rank := rank.getD 0, capacity := (cap.map (·.toNat)).getD 8, mode := .free, holders := [], queue := [],
              abandoned := false }
    else .counter { ceiling := ceil.getD Config.maxU32, value := init.getD 0, waiters := [] }

/-- The lowest-numbered FREE object entry (R8). -/
def Coord.freeObj? (c : Coord) : Option ObjIx := (indices 256).find? fun i => (c.obj i).body == .free

/-- CREATE after the renewal (R6 to R8). -/
def createBody (kind : Byte) (name : List Byte) (openIfExists : Bool) (rank cap : Option Byte) (ceil init : Option Nat)
    (_j : SessIx) (_ctx : RequestContext) (c : Coord) : ReplyBody × Coord :=
  match createChecks kind name rank cap ceil init with
  | some st => (.create st Handle.zero .none false, c)
  | none =>
    match nameLookup name c with
    | (some (i, k), c) =>
      let st : Status := if !openIfExists then .exists else if k.code = kind then .ok else .wrongKind
      (.create st (c.objHandle i) k true, c)
    | (none, c) =>
      match c.freeObj? with
      | none => (.create .noRoom Handle.zero .none false, c)
      | some i =>
        let r := newRecord kind name rank cap ceil init
        (.create .ok (c.objHandle i) r.kind.field false, c.setObjBody i (.live r .clean))

/-- CREATE: the engine takes port `p`'s CREATE (R6 to R8). -/
def execCreate (p : Link) (s : State) : Host.Outcome State Fault Refusal :=
  engineRequest p (fun r => match r with
    | .create kind name oie rank cap ceil init => some (sessionRequest false (createBody kind name oie rank cap ceil init))
    | _ => none) s

/-! ### FIND -/

/-- FIND after the renewal (R9). -/
def findBody (name : List Byte) (_j : SessIx) (_ctx : RequestContext) (c : Coord) : ReplyBody × Coord :=
  if !nameLengthOk name then (.find .range Handle.zero .none, c)
  else
    match nameLookup name c with
    | (some (i, k), c) => (.find .ok (c.objHandle i) k, c)
    | (none, c) => (.find .noObject Handle.zero .none, c)

/-- FIND: the engine takes port `p`'s FIND (R9). -/
def execFind (p : Link) (s : State) : Host.Outcome State Fault Refusal :=
  engineRequest p (fun r => match r with
    | .find name => some (sessionRequest false (findBody name))
    | _ => none) s

/-! ### DELETE -/

/-- A lock has holders or waiters, a counter waiters (R10). -/
def ObjKind.inUse : ObjKind → Bool
  | .lock l => !(l.holders.isEmpty && l.queue.isEmpty)
  | .counter k => !k.waiters.isEmpty

/-- The waits of an object in the order of its queue or list (R11). -/
def ObjKind.waitIds : ObjKind → List Handle
  | .lock l => l.queue
  | .counter k => k.waiters

/-- The holders of an object in grant order; a counter has none (R11). -/
def ObjKind.holderList : ObjKind → List SessIx
  | .lock l => l.holders
  | .counter _ => []

/-- Withdraw the wait named `id`, if it is still in use (R11 step 1). -/
def withdrawNamed (H : Handler) (acc : Nat × Coord) (id : Handle) : Nat × Coord :=
  match acc.2.findWait id with
  | some (w, _) => withdrawOne H .deleted w acc
  | none => acc

/-- A force-deletion of object `i`: withdrawals, revocations, and the freeing of the entry, with the two counts (R11). -/
def forceDelete (i : ObjIx) (k : ObjKind) (c : Coord) : Nat × Nat × Coord :=
  let H := handlerSkipping i
  let h := c.objHandle i
  let (withdrawn, c) := k.waitIds.foldl (withdrawNamed H) (0, c)
  let (revoked, c) := k.holderList.foldl (fun acc j => revokeOne H .deleted h j acc) (0, c)
  (withdrawn, revoked, c.freeObj i)

/-- DELETE after the renewal (R10, R11). -/
def deleteBody (h : Handle) (force : Bool) (_j : SessIx) (_ctx : RequestContext) (c : Coord) : ReplyBody × Coord :=
  let i := h.objIx
  match c.resolve h with
  | .noObject => (.delete .noObject 0 0, c)
  | .faulted => (.delete .ok 0 0, (c.freeObj i).report .faultedFreed)
  | .live =>
    match readObj handler i c with
    | (none, c) => (.delete .faulted 0 0, c)
    | (some r, c) =>
      if force then
        let (w, v, c) := forceDelete i r.kind c
        (.delete .ok w v, c)
      else if r.kind.inUse then (.delete .inUse 0 0, c)
      else (.delete .ok 0 0, c.freeObj i)

/-- DELETE: the engine takes port `p`'s DELETE (R10, R11). -/
def execDelete (p : Link) (s : State) : Host.Outcome State Fault Refusal :=
  engineRequest p (fun r => match r with
    | .delete h force => some (sessionRequest false (deleteBody h force))
    | _ => none) s

/-! ### DESCRIBE and LIST_OBJECTS -/

/-- What DESCRIBE reports of a record (R13). -/
def ObjRecord.description (r : ObjRecord) : Description :=
  match r.kind with
  | .lock l => .lock r.name l.mode l.holders l.queue.length l.rank l.capacity l.abandoned
  | .counter k => .counter r.name k.value k.ceiling k.waiters.length

/-- DESCRIBE after the renewal (R13). -/
def describeBody (h : Handle) (_j : SessIx) (_ctx : RequestContext) (c : Coord) : ReplyBody × Coord :=
  match resolveRecord h c with
  | (.error st, c) => (.describe st .none, c)
  | (.ok r, c) => (.describe .ok r.description, c)

/-- DESCRIBE: the engine takes port `p`'s DESCRIBE (R13). -/
def execDescribe (p : Link) (s : State) : Host.Outcome State Fault Refusal :=
  engineRequest p (fun r => match r with
    | .describe h => some (sessionRequest false (describeBody h))
    | _ => none) s

/-- A walk of LIST_OBJECTS: the entries found, and the next index once it is known. -/
structure ObjWalk where
  entries : List ObjListing
  next : Option Nat
  tables : Coord
  deriving DecidableEq, Repr

/-- One step of the walk, at entry `i` (R14): a non-FREE entry is reported while fewer than six are; a seventh gives the
next index. A record found uncorrectable here is reported FAULTED with kind UNKNOWN. -/
def objWalkStep (start : Nat) (a : ObjWalk) (i : ObjIx) : ObjWalk :=
  if i.val < start ∨ a.next.isSome ∨ (a.tables.obj i).body = .free then a
  else if a.entries.length < 6 then
    match readObj handler i a.tables with
    | (some r, c) => { a with entries := a.entries ++ [⟨c.objHandle i, r.kind.field, false⟩], tables := c }
    | (none, c) => { a with entries := a.entries ++ [⟨c.objHandle i, .unknown, true⟩], tables := c }
  else { a with next := some i.val }

/-- LIST_OBJECTS after the renewal (R14). -/
def listObjectsBody (start : Byte) (_j : SessIx) (_ctx : RequestContext) (c : Coord) : ReplyBody × Coord :=
  let a := (indices 256).foldl (objWalkStep start.toNat) ⟨[], none, c⟩
  (.listObjects .ok a.entries (a.next.getD 0), a.tables)

/-- LIST_OBJECTS: the engine takes port `p`'s LIST_OBJECTS (R14). -/
def execListObjects (p : Link) (s : State) : Host.Outcome State Fault Refusal :=
  engineRequest p (fun r => match r with
    | .listObjects start => some (sessionRequest false (listObjectsBody start))
    | _ => none) s

end Sys2Proof.Machine
end

