-- ==== Sys2Proof/Machine/Locks.lean ====
section
/-! DEFINITION. The lock commands (chapter 2): ACQUIRE and RELEASE. -/

namespace Sys2Proof.Machine

/-- Resolve a handle and read the lock it names: the lock, or the status of the refusal (R22 steps 1 and 2, R33). -/
def resolveLock (h : Handle) (c : Coord) : Except Status LockRecord × Coord :=
  match resolveRecord h c with
  | (.error st, c) => (.error st, c)
  | (.ok r, c) =>
    match r.kind with
    | .lock l => (.ok l, c)
    | .counter _ => (.error .wrongKind, c)

/-- The mode of an ACQUIRE, by its place in the list: EXCLUSIVE or SHARED (R189). -/
def acquireKind? (mode : Byte) : Option WaitKind :=
  if mode = 0 then some .exclusive else if mode = 1 then some .shared else none

/-- A deadline field that is present is in 1..65535 (R22, R55). -/
def deadlineOk (d : Option Nat) : Bool := d.all fun n => decide (1 ≤ n ∧ n ≤ 65535)

/-- Wait record `w` is in use, owned by session `j`, and on the object named by `h`. -/
def Coord.waitsOn (c : Coord) (j : SessIx) (h : Handle) (w : WaitIx) : Bool :=
  match (c.wait w).body with
  | some r => r.owner == j && r.object == h
  | none => false

/-- The session has a wait on the object named by `h` (R23, R55). -/
def Coord.hasWaitOn (c : Coord) (j : SessIx) (h : Handle) : Bool := (indices 128).any (c.waitsOn j h)

/-- The locks that count toward the ordered-acquisition check of session `j`: its holds, then the objects of its lock
waits in ascending wait index (R24). -/
def Coord.rankedLocks (c : Coord) (j : SessIx) (r : SessRecord) : List Handle :=
  r.holds ++ (indices 128).filterMap fun w =>
    match (c.wait w).body with
    | some x => if x.owner = j ∧ x.kind.isLock then some x.object else none
    | none => none

/-- One lock of the ordered-acquisition check (R24): its rank counts if its record is sound; a record that proves
uncorrectable is handled on the spot and contributes no rank. -/
def rankStep (acc : Option Nat × Coord) (h : Handle) : Option Nat × Coord :=
  match readObj handler h.objIx acc.2 with
  | (some ⟨_, .lock l⟩, c) => (some (max (acc.1.getD 0) l.rank.toNat), c)
  | (_, c) => (acc.1, c)

/-- The ordered-acquisition check passes (R24): the rank is strictly above the highest rank held or waited for. A session
without the ordered flag skips it. -/
def orderCheck (j : SessIx) (r : SessRecord) (rank : Byte) (c : Coord) : Bool × Coord :=
  if r.ordered then
    let (highest, c) := (c.rankedLocks j r).foldl rankStep (none, c)
    (highest.all fun m => decide (m < rank.toNat), c)
  else (true, c)

/-- The grant test (R25): the wait queue is empty, and the lock can be held in the mode requested. -/
def LockRecord.grantTest (l : LockRecord) (k : WaitKind) : Bool := l.queue.isEmpty && l.grantable k

/-- The wait record a request places (R27, R57). -/
def placeWait (w : WaitIx) (r : WaitRecord) (c : Coord) : Coord :=
  (c.setWait w { c.wait w with body := some r }).modSess r.owner fun s => s.raiseCount r.kind

/-- An ACQUIRE is granted at once (R26). -/
def grantNow (i : ObjIx) (h : Handle) (l : LockRecord) (j : SessIx) (k : WaitKind) (c : Coord) : Coord :=
  (c.setLock i (l.addHolder j k.lockMode)).modSess j fun s => { s with holds := s.holds ++ [h] }

/-- A reply to ACQUIRE that grants nothing and places nothing (R22). -/
def acquireRefusal (st : Status) : ReplyBody := .acquire st false Handle.zero 0

/-- The outcome of an ACQUIRE that passed steps 1 to 6 of R22 (R25 to R27). -/
def acquireOutcome (h : Handle) (l : LockRecord) (k : WaitKind) (try_ : Bool) (deadline : Option Nat) (j : SessIx)
    (ctx : RequestContext) (c : Coord) : ReplyBody × Coord :=
  let i := h.objIx
  if l.grantTest k then
    if c.headroom j < 1 then (acquireRefusal .budget, c)
    else (.acquire .ok l.abandoned Handle.zero 0, grantNow i h l j k c)
  else if try_ then (acquireRefusal .busy, c)
  else if c.headroom j < 2 then (acquireRefusal .budget, c)
  else
    match c.freeWaitIx? with
    | none => (acquireRefusal .poolFull, c)
    | some w =>
      let id := waitHandle w (c.wait w).gen
      let c := placeWait w ⟨j, h, k, deadline, ctx.header.tag, some ctx.slotRef⟩ c
      let c := c.setLock i { l with queue := l.queue ++ [id] }
      (.acquire .queued false id (l.queue.length + 1), c)

/-- ACQUIRE after the renewal: the checks of R22 in order. -/
def acquireBody (h : Handle) (mode : Byte) (try_ : Bool) (deadline : Option Nat) (j : SessIx) (ctx : RequestContext)
    (c : Coord) : ReplyBody × Coord :=
  match resolveLock h c with
  | (.error st, c) => (acquireRefusal st, c)
  | (.ok l, c) =>
    match acquireKind? mode, c.sessRecord? j with
    | some k, some r =>
      if !deadlineOk deadline then (acquireRefusal .range, c)
      else if h ∈ r.holds then (acquireRefusal .alreadyHeld, c)
      else if c.hasWaitOn j h then (acquireRefusal .alreadyWaiting, c)
      else if Config.holdLimit ≤ r.holds.length + r.lockWaits then (acquireRefusal .holdLimit, c)
      else
        match orderCheck j r l.rank c with
        | (false, c) => (acquireRefusal .orderViolation, c)
        | (true, c) =>
          match c.lock? h.objIx with
          | some l => acquireOutcome h l k try_ deadline j ctx c
          | none => (acquireRefusal .faulted, c)
    | _, _ => (acquireRefusal .range, c)

/-- ACQUIRE: the engine takes port `p`'s ACQUIRE (R22 to R27). -/
def execAcquire (p : Link) (s : State) : Host.Outcome State Fault Refusal :=
  engineRequest p (fun r => match r with
    | .acquire h mode t d => some (sessionRequest false (acquireBody h mode t d))
    | _ => none) s

/-- RELEASE after the renewal (R33, R34). Every reply about a lock reports its abandoned flag, a NOT_HELD one too (R36). -/
def releaseBody (h : Handle) (repaired : Bool) (j : SessIx) (_ctx : RequestContext) (c : Coord) : ReplyBody × Coord :=
  match resolveLock h c with
  | (.error st, c) => (.release st 0 false, c)
  | (.ok l, c) =>
    if (c.sessRecord? j).any fun r => decide (h ∈ r.holds) then
      let i := h.objIx
      let left := l.removeHolder j
      let c := c.setLock i { left with abandoned := left.abandoned && !repaired }
      let c := c.modSess j fun s => { s with holds := s.holds.erase h }
      let (grants, c) := grantPass handler none i c
      (.release .ok grants ((c.lock? i).any (·.abandoned)), c)
    else (.release .notHeld 0 l.abandoned, c)

/-- RELEASE: the engine takes port `p`'s RELEASE (R33). -/
def execRelease (p : Link) (s : State) : Host.Outcome State Fault Refusal :=
  engineRequest p (fun r => match r with
    | .release h repaired => some (sessionRequest false (releaseBody h repaired))
    | _ => none) s

end Sys2Proof.Machine
end

