-- ==== Sys2Proof/Machine/Counters.lean ====
section
/-! DEFINITION. The counter commands (chapter 3): the six arithmetic requests and AWAIT. -/

namespace Sys2Proof.Machine

/-- The reply fields of a counter request that refuses or changes nothing, at the counter's value `v` (R48). -/
def countUnchanged (st : Status) (v : Nat) : ReplyBody := .count st v v false 0

/-- Store a new value, with the release pass where the request's own change raised it, and answer OK (R48, R58). -/
def storeValue (i : ObjIx) (k : CounterRecord) (v : Nat) (c : Coord) : ReplyBody × Coord :=
  let c := if v = k.value then c else c.setCounter i { k with value := v }
  let (released, c) := if k.value < v then releasePass handler i c else (0, c)
  (.count .ok k.value (((c.counter? i).map (·.value)).getD v) (decide (v ≠ k.value)) released, c)

/-- Resolve a handle and read the counter it names (R48 steps 1 and 2). -/
def resolveCounter (h : Handle) (c : Coord) : Except Status CounterRecord × Coord :=
  match resolveRecord h c with
  | (.error st, c) => (.error st, c)
  | (.ok r, c) =>
    match r.kind with
    | .counter k => (.ok k, c)
    | .lock _ => (.error .wrongKind, c)

/-- The common frame of the arithmetic requests: the common checks, then the request's own rule on the counter (R48). -/
def countBody (h : Handle) (own : CounterRecord → Coord → ReplyBody × Coord) (_j : SessIx) (_ctx : RequestContext)
    (c : Coord) : ReplyBody × Coord :=
  match resolveCounter h c with
  | (.error st, c) => (countUnchanged st 0, c)
  | (.ok k, c) => own k c

/-- COUNT_READ on a counter (R49). -/
def countReadOwn (k : CounterRecord) (c : Coord) : ReplyBody × Coord := (countUnchanged .ok k.value, c)

/-- COUNT_SET on a counter (R50). -/
def countSetOwn (i : ObjIx) (v : Nat) (k : CounterRecord) (c : Coord) : ReplyBody × Coord :=
  if k.ceiling < v then (countUnchanged .range k.value, c) else storeValue i k v c

/-- COUNT_ADD on a counter: the exact sum must lie in 0..ceiling (R51). -/
def countAddOwn (i : ObjIx) (delta : Int) (k : CounterRecord) (c : Coord) : ReplyBody × Coord :=
  let sum := (k.value : Int) + delta
  if sum < 0 ∨ (k.ceiling : Int) < sum then (countUnchanged .range k.value, c) else storeValue i k sum.toNat c

/-- COUNT_SWAP on a counter (R52). -/
def countSwapOwn (i : ObjIx) (expected new : Nat) (k : CounterRecord) (c : Coord) : ReplyBody × Coord :=
  if k.ceiling < new then (countUnchanged .range k.value, c)
  else if k.value = expected then storeValue i k new c
  else (countUnchanged .ok k.value, c)

/-- COUNT_RAISE on a counter (R53). -/
def countRaiseOwn (i : ObjIx) (v : Nat) (k : CounterRecord) (c : Coord) : ReplyBody × Coord :=
  if k.ceiling < v then (countUnchanged .range k.value, c) else storeValue i k (max k.value v) c

/-- COUNT_LOWER on a counter: it has no range check (R54). -/
def countLowerOwn (i : ObjIx) (v : Nat) (k : CounterRecord) (c : Coord) : ReplyBody × Coord :=
  storeValue i k (min k.value v) c

/-- COUNT_READ: the engine takes port `p`'s COUNT_READ (R49). -/
def execCountRead (p : Link) (s : State) : Host.Outcome State Fault Refusal :=
  engineRequest p (fun r => match r with
    | .countRead h => some (sessionRequest false (countBody h countReadOwn))
    | _ => none) s

/-- COUNT_SET: the engine takes port `p`'s COUNT_SET (R50). -/
def execCountSet (p : Link) (s : State) : Host.Outcome State Fault Refusal :=
  engineRequest p (fun r => match r with
    | .countSet h v => some (sessionRequest false (countBody h (countSetOwn h.objIx v)))
    | _ => none) s

/-- COUNT_ADD: the engine takes port `p`'s COUNT_ADD (R51). -/
def execCountAdd (p : Link) (s : State) : Host.Outcome State Fault Refusal :=
  engineRequest p (fun r => match r with
    | .countAdd h d => some (sessionRequest false (countBody h (countAddOwn h.objIx d)))
    | _ => none) s

/-- COUNT_SWAP: the engine takes port `p`'s COUNT_SWAP (R52). -/
def execCountSwap (p : Link) (s : State) : Host.Outcome State Fault Refusal :=
  engineRequest p (fun r => match r with
    | .countSwap h e v => some (sessionRequest false (countBody h (countSwapOwn h.objIx e v)))
    | _ => none) s

/-- COUNT_RAISE: the engine takes port `p`'s COUNT_RAISE (R53). -/
def execCountRaise (p : Link) (s : State) : Host.Outcome State Fault Refusal :=
  engineRequest p (fun r => match r with
    | .countRaise h v => some (sessionRequest false (countBody h (countRaiseOwn h.objIx v)))
    | _ => none) s

/-- COUNT_LOWER: the engine takes port `p`'s COUNT_LOWER (R54). -/
def execCountLower (p : Link) (s : State) : Host.Outcome State Fault Refusal :=
  engineRequest p (fun r => match r with
    | .countLower h v => some (sessionRequest false (countBody h (countLowerOwn h.objIx v)))
    | _ => none) s

/-! ### AWAIT -/

/-- A reply to AWAIT that leaves the value `v` (R48, R55). -/
def awaitUnchanged (st : Status) (v : Nat) (wait : Handle) : ReplyBody := .await st v v false 0 wait

/-- AWAIT on a counter: steps 3 to 7 of R55, and its outcomes (R56, R57). -/
def awaitOwn (h : Handle) (threshold : Nat) (take try_ : Bool) (deadline : Option Nat) (j : SessIx)
    (ctx : RequestContext) (k : CounterRecord) (c : Coord) : ReplyBody × Coord :=
  let i := h.objIx
  if threshold < 1 ∨ k.ceiling < threshold ∨ !deadlineOk deadline then (awaitUnchanged .range k.value Handle.zero, c)
  else if c.hasWaitOn j h then (awaitUnchanged .alreadyWaiting k.value Handle.zero, c)
  else if threshold ≤ k.value then
    if take then
      (.await .ok k.value (k.value - threshold) true 0 Handle.zero,
        c.setCounter i { k with value := k.value - threshold })
    else (awaitUnchanged .ok k.value Handle.zero, c)
  else if try_ then (awaitUnchanged .busy k.value Handle.zero, c)
  else if c.headroom j < 1 then (awaitUnchanged .budget k.value Handle.zero, c)
  else
    match c.freeWaitIx? with
    | none => (awaitUnchanged .poolFull k.value Handle.zero, c)
    | some w =>
      let id := waitHandle w (c.wait w).gen
      let c := placeWait w ⟨j, h, .atLeast threshold take, deadline, ctx.header.tag, some ctx.slotRef⟩ c
      (awaitUnchanged .queued k.value id, c.setCounter i { k with waiters := k.waiters ++ [id] })

/-- AWAIT after the renewal (R48, R55 to R57). -/
def awaitBody (h : Handle) (threshold : Nat) (take try_ : Bool) (deadline : Option Nat) (j : SessIx)
    (ctx : RequestContext) (c : Coord) : ReplyBody × Coord :=
  match resolveCounter h c with
  | (.error st, c) => (awaitUnchanged st 0 Handle.zero, c)
  | (.ok k, c) => awaitOwn h threshold take try_ deadline j ctx k c

/-- AWAIT: the engine takes port `p`'s AWAIT (R55). -/
def execAwait (p : Link) (s : State) : Host.Outcome State Fault Refusal :=
  engineRequest p (fun r => match r with
    | .await h t take try_ d => some (sessionRequest false (awaitBody h t take try_ d))
    | _ => none) s

end Sys2Proof.Machine
end

