-- ==== Sys2Proof/Machine/Manage.lean ====
section
/-! DEFINITION. The management unit's own events: alerts (R174), statistics (R171), the faulted count (R177), and
MANAGEMENT_REPORT. -/

namespace Sys2Proof.Machine

/-! ### Alerts -/

/-- The alert's kind is enabled in ALERT_MASK (R168, R174). -/
def Mgmt.enabled (m : Mgmt) (a : Alert) : Bool := m.params.alertMask.testBit (a.code.toNat - 1)

/-- Raise an alert: dropped silently if its kind is masked, appended if the queue has room, dropped and counted if it is
full (R174). -/
def Mgmt.raiseAlert (a : Alert) (m : Mgmt) : Mgmt :=
  if m.enabled a then
    if m.alerts.length < Config.alertDepth then { m with alerts := m.alerts ++ [a] }
    else { m with deviceStats := { m.deviceStats with alertsDropped := saturate m.deviceStats.alertsDropped } }
  else m

/-! ### Statistics -/

/-- One counter of a link rises by one (R171). -/
def LinkStats.bump (k : LinkStat) (x : LinkStats) : LinkStats :=
  match k with
  | .framesAccepted => { x with framesAccepted := saturate x.framesAccepted }
  | .framesRejected => { x with framesRejected := saturate x.framesRejected }
  | .sequenceErrors => { x with sequenceErrors := saturate x.sequenceErrors }
  | .duplicatesDropped => { x with duplicatesDropped := saturate x.duplicatesDropped }
  | .staleRewinds => { x with staleRewinds := saturate x.staleRewinds }
  | .rewindsSent => { x with rewindsSent := saturate x.rewindsSent }
  | .replaysStarted => { x with replaysStarted := saturate x.replaysStarted }
  | .failures => { x with failures := saturate x.failures }
  | .nonRequestDropped => { x with nonRequestDropped := saturate x.nonRequestDropped }

/-- The nine counters of a link in reply order (R171). -/
def LinkStats.counters (x : LinkStats) : List Nat :=
  [x.framesAccepted, x.framesRejected, x.sequenceErrors, x.duplicatesDropped, x.staleRewinds, x.rewindsSent,
    x.replaysStarted, x.failures, x.nonRequestDropped]

/-- The four device counters in reply order (R171). -/
def DeviceStats.counters (x : DeviceStats) : List Nat :=
  [x.recordsCorrected, x.recordsFaulted, x.sessionsExpired, x.alertsDropped]

/-- One counter of link `l` rises by one. -/
def Mgmt.bumpLink (l : Link) (k : LinkStat) (m : Mgmt) : Mgmt :=
  { m with linkStats := tableSet m.linkStats l (m.linkStats[l].bump k) }

/-- Records faulted rises by one (R180, R181). -/
def Mgmt.bumpFaulted (m : Mgmt) : Mgmt :=
  { m with deviceStats := { m.deviceStats with recordsFaulted := saturate m.deviceStats.recordsFaulted } }

/-- Sessions expired rises by one (R92). -/
def Mgmt.bumpExpired (m : Mgmt) : Mgmt :=
  { m with deviceStats := { m.deviceStats with sessionsExpired := saturate m.deviceStats.sessionsExpired } }

/-- Records corrected rises by one (R178). -/
def Mgmt.bumpCorrected (m : Mgmt) : Mgmt :=
  { m with deviceStats := { m.deviceStats with recordsCorrected := saturate m.deviceStats.recordsCorrected } }

/-! ### Reports -/

/-- The unit takes one report (R92, R140, R151, R171, R177, R178, R180, R181). A STOP is not a failure: it raises
LINK_FAILED and counts nothing. -/
def Mgmt.takeReport (r : Report) (m : Mgmt) : Mgmt :=
  match r with
  | .stat l k => m.bumpLink l k
  | .linkUp l => m.raiseAlert (.linkUp l)
  | .linkFailed l why =>
    (if why = .stopped then m else m.bumpLink l .failures).raiseAlert (.linkFailed l why)
  | .sessionExpired h n => m.bumpExpired.raiseAlert (.sessionExpired h n)
  | .sessionFaulted h => m.bumpFaulted.raiseAlert (.sessionFaulted h)
  | .recordFaulted h =>
    { m.bumpFaulted with faultedCount := m.faultedCount + 1 }.raiseAlert (.recordFaulted h)
  | .faultedFreed => { m with faultedCount := m.faultedCount - 1 }
  | .recordCorrected => m.bumpCorrected

/-- The reports of a source that the unit has not taken yet, oldest first. -/
def State.reportsOf (s : State) : ReportSource → List Report
  | .port p => (s.port p).out
  | .dispatcher p => (s.disp p).out
  | .engine => s.coord.engineOut
  | .integrity => s.coord.integrityOut

/-- Replace the reports of a source that the unit has not taken yet. -/
def State.setReports (s : State) (rs : List Report) : ReportSource → State
  | .port p => s.modPort p fun x => { x with out := rs }
  | .dispatcher p => s.modDisp p fun d => { d with out := rs }
  | .engine => s.setCoord { s.coord with engineOut := rs }
  | .integrity => s.setCoord { s.coord with integrityOut := rs }

/-- The unit takes the oldest report of a source, if there is one. -/
def takeReportFrom (src : ReportSource) (s : State) : State :=
  match s.reportsOf src with
  | [] => s
  | r :: rest => (s.setMgmt (s.mgmt.takeReport r)).setReports rest src

/-- MANAGEMENT_REPORT (R171): the unit takes the oldest outstanding report of the block named. -/
def execManagementReport (src : ReportSource) (s : State) : Host.Outcome State Fault Refusal :=
  .next (takeReportFrom src s)

/-- The unit takes every outstanding report of a source, in order. -/
def drainFrom (s : State) (src : ReportSource) : State :=
  (s.setMgmt ((s.reportsOf src).foldl (fun m r => m.takeReport r) s.mgmt)).setReports [] src

/-- Every source of reports. -/
def reportSources : List ReportSource :=
  (indices 4).map .port ++ (indices 4).map .dispatcher ++ [.engine, .integrity]

/-- The unit takes every outstanding report of the part. -/
def drainReports (s : State) : State := reportSources.foldl drainFrom s

/-! ### The FAULT_N pin -/

/-- FAULT_N is driven low (R177). -/
def State.faultNLow (s : State) : Bool := decide (0 < s.mgmt.faultedCount)

end Sys2Proof.Machine
end

