-- ==== Sys2Proof/Machine/Requests.lean ====
section
/-! DEFINITION. The events of the request path and of the notice unit: TAKE_REQUEST, DROP_NON_REQUEST,
SLOT_FREEING_REPORT, DISCARD_SLOTS, REVERT_NOTICES and NOTICE_ACK_REPORT (chapters 6 and 7). -/

namespace Sys2Proof.Machine

/-! ### Taking and dropping messages -/

/-- TAKE_REQUEST (R121 to R125): the dispatcher of port `p` takes the REQUEST at the head of its receive buffer, where
there is one, a slot is FREE, the port is UP and no reset is pending. -/
def execTakeRequest (p : Link) (s : State) : Host.Outcome State Fault Refusal := .next (takeHeadRequest p s)

/-- DROP_NON_REQUEST (R118): a message of another kind at the head of the receive buffer is dropped and counted. -/
def execDropNonRequest (p : Link) (s : State) : Host.Outcome State Fault Refusal :=
  if mayTake p s then
    match (s.port p).rxBuffer with
    | m :: _ =>
      if m.kind = kindRequest then .next s
      else
        .next ((s.modPort p Port.takeHead).modDisp p fun d => { d with out := d.out ++ [.stat p .nonRequestDropped] })
    | [] => .next s
  else .next s

/-! ### Freed slots -/

/-- A wait's request slot reference becomes absent if it matches the freed slot (R71). -/
def WaitEntry.clearRef (r : SlotRef) (e : WaitEntry) : WaitEntry :=
  { e with body := e.body.map fun x => if x.slotRef = some r then { x with slotRef := none } else x }

/-- The hold of a notice lifts if its reference matches the freed slot (R109). -/
def Notice.liftHold (r : SlotRef) (n : Notice) : Notice := if n.held = some r then { n with held := none } else n

/-- The engine takes the report of a freed slot: matching references become absent, and matching holds lift (R71,
R109). -/
def slotFreed (r : SlotRef) (c : Coord) : Coord :=
  { c with
    waits := tableMap (WaitEntry.clearRef r) c.waits
    boxes := tableMap (fun b => { b with queue := b.queue.map (Notice.liftHold r) }) c.boxes }

/-- SLOT_FREEING_REPORT (R71, R109): the engine takes the outstanding freeing report with these three values. -/
def execSlotFreeingReport (r : SlotRef) (s : State) : Host.Outcome State Fault Refusal :=
  if r ∈ (s.disp r.port).freed then
    .next ((s.setCoord (slotFreed r s.coord)).modDisp r.port fun d => { d with freed := d.freed.erase r })
  else .next s

/-- The slot becomes FREE, keeping its occupancy number, and the freeing is reported to the engine (R131, R132). -/
def Dispatcher.freeSlot (d : Dispatcher) (p : Link) (k : SlotIx) : Dispatcher :=
  { d.setSlot k ⟨(d.slot k).occupancy, .free⟩ with freed := d.freed ++ [⟨p, k, (d.slot k).occupancy⟩] }

/-- Every occupied slot is freed, in reply-queue order from the head, and the queue becomes empty (R132). -/
def Dispatcher.discardAll (d : Dispatcher) (p : Link) : Dispatcher :=
  { d.queue.foldl (fun d k => d.freeSlot p k) d with queue := [] }

/-- The dispatcher of port `p` takes its port's outstanding failure report (R132). -/
def takeFailureAtDispatcher (p : Link) (s : State) : State :=
  if (s.port p).failDispatcher then
    (s.modDisp p fun d => d.discardAll p).modPort p fun x => { x with failDispatcher := false }
  else s

/-- DISCARD_SLOTS (R132). -/
def execDiscardSlots (p : Link) (s : State) : Host.Outcome State Fault Refusal := .next (takeFailureAtDispatcher p s)

/-! ### Notices -/

/-- The unit reverts a session that is OPEN in its view and bound to link `p` (R113). -/
def NoticeBox.failed (p : Link) (b : NoticeBox) : NoticeBox :=
  match b.view with
  | some v => if v.orphaned = false ∧ v.link = p then b.orphan else b
  | none => b

/-- The notice unit takes the outstanding failure report of port `p` (R113). The port's outstanding acknowledgment
reports then find no SENT notice and are dropped (R112). A session that a request of the port's slots OPENed or RESUMEd
there after the engine took its own report is set ORPHANED in the unit's view, and stays OPEN at the engine (the model's
choice, log entry 40). -/
def takeFailureAtNotices (p : Link) (s : State) : State :=
  if (s.port p).failNotices then
    (s.setCoord { s.coord with boxes := tableMap (NoticeBox.failed p) s.coord.boxes }).modPort p
      fun x => { x with failNotices := false, noticeAcks := [] }
  else s

/-- REVERT_NOTICES (R113). -/
def execRevertNotices (p : Link) (s : State) : Host.Outcome State Fault Refusal := .next (takeFailureAtNotices p s)

/-- The SENT notice with this serial leaves the queue, if there is one (R112). -/
def NoticeBox.acked (b : NoticeBox) (serial : Nat) : NoticeBox :=
  { b with queue := b.queue.eraseP fun n => n.sent && n.serial == serial }

/-- The notice unit takes the report of an acknowledged frame that carried a notice (R112): the notice is removed if the
handle names a session the unit holds at that generation; otherwise the report is dropped. -/
def noticeAcked (h : Handle) (serial : Nat) (c : Coord) : Coord :=
  match h.sessIx? with
  | none => c
  | some j =>
    match (c.box j).view with
    | some v => if v.gen = h.gen then c.setBox j ((c.box j).acked serial) else c
    | none => c

/-- NOTICE_ACK_REPORT (R112): the notice unit takes the oldest outstanding report of port `p`. -/
def execNoticeAckReport (p : Link) (s : State) : Host.Outcome State Fault Refusal :=
  match (s.port p).noticeAcks with
  | [] => .next s
  | (h, serial) :: rest =>
    .next ((s.setCoord (noticeAcked h serial s.coord)).modPort p fun x => { x with noticeAcks := rest })

end Sys2Proof.Machine
end

