-- ==== Sys2Proof/Machine/Sessions.lean ====
section
/-! DEFINITION. The session commands (chapter 5): OPEN, RESUME, RENEW, CLOSE, LIST_SESSIONS, and the engine's taking of
a failure report. -/

namespace Sys2Proof.Machine

/-! ### OPEN -/

/-- The lowest-numbered FREE session entry (R88). -/
def Coord.freeSess? (c : Coord) : Option SessIx := (indices 32).find? fun j => (c.sess j).body.isNone

/-- The record OPEN writes (R82, R89). -/
def openRecord (period : Nat) (ordered : Bool) (label : List Byte) : SessRecord where
  period := period
  remaining := period
  ordered := ordered
  label := label
  holds := []
  lockWaits := 0
  counterWaits := 0
  nextSerial := 1

/-- Entry `j` becomes OPEN on link `p` at the generation it holds, and the notice unit begins the session with an empty
queue (R89). -/
def openEntry (j : SessIx) (p : Link) (r : SessRecord) (c : Coord) : Coord :=
  let g := (c.sess j).gen
  (c.setSess j ⟨g, some ⟨false, p, r, .clean⟩⟩).setBox j ⟨some ⟨false, g, p⟩, []⟩

/-- OPEN (R88, R89). -/
def openBody (lease : Option Nat) (ordered : Option Bool) (label : Option (List Byte)) : EngineBody := fun ctx c =>
  let refused (st : Status) : ReplyBody := .openSession st Handle.zero 0 ctx.epoch
  let period := lease.getD ctx.defaultLease
  if lease.any fun l => decide (l < 50 ∨ 60000 < l) then (refused .range, c)
  else if label.any fun l => decide (12 < l.length) then (refused .range, c)
  else
    match c.freeSess? with
    | none => (refused .noRoom, c)
    | some j =>
      (.openSession .ok (c.sessHandle j) period ctx.epoch,
        openEntry j ctx.link (openRecord period (ordered.getD false) (label.getD [])) c)

/-- OPEN: the engine takes port `p`'s OPEN (R88, R89). -/
def execOpenSession (p : Link) (s : State) : Host.Outcome State Fault Refusal :=
  engineRequest p (fun r => match r with
    | .openSession lease ordered label => some (openBody lease ordered label)
    | _ => none) s

/-! ### RESUME, RENEW and CLOSE -/

/-- The session becomes OPEN on link `p`, and the notice unit is told so (R97, R114). -/
def rebind (j : SessIx) (p : Link) (c : Coord) : Coord :=
  match (c.sess j).body with
  | none => c
  | some b =>
    (c.setSess j { c.sess j with body := some { b with orphaned := false, bound := p } }).setBox j
      { c.box j with view := some ⟨false, (c.sess j).gen, p⟩ }

/-- RESUME after its checks and the renewal (R97). The session is current here: the renewal has read its record. -/
def resumeBody (j : SessIx) (ctx : RequestContext) (c : Coord) : ReplyBody × Coord :=
  let c := rebind j ctx.link c
  let queue := (c.box j).queue
  match c.sessRecord? j with
  | none => (refusal ctx.header.code ctx.epoch .noSession, c)
  | some r =>
    (.resume .ok r.period r.holds.length r.lockWaits r.counterWaits queue.length
      (match queue with
        | n :: _ => n.serial
        | [] => 0), c)

/-- RESUME: the engine takes port `p`'s RESUME (R96, R97). -/
def execResume (p : Link) (s : State) : Host.Outcome State Fault Refusal :=
  engineRequest p (fun r => match r with
    | .resume => some (sessionRequest true resumeBody)
    | _ => none) s

/-- RENEW after the renewal, which is its only effect (R87). The session is current here. -/
def renewBody (j : SessIx) (ctx : RequestContext) (c : Coord) : ReplyBody × Coord :=
  match c.sessRecord? j with
  | some r => (.renew .ok r.remaining, c)
  | none => (refusal ctx.header.code ctx.epoch .noSession, c)

/-- RENEW: the engine takes port `p`'s RENEW (R87). -/
def execRenew (p : Link) (s : State) : Host.Outcome State Fault Refusal :=
  engineRequest p (fun r => match r with
    | .renew => some (sessionRequest false renewBody)
    | _ => none) s

/-- CLOSE after the renewal (R90). -/
def closeBody (j : SessIx) (_ctx : RequestContext) (c : Coord) : ReplyBody × Coord :=
  let ((released, cancelled, discarded), c) := endSession (handlerClosing j) false true j c
  (.close .ok released cancelled discarded, c)

/-- CLOSE: the engine takes port `p`'s CLOSE (R90). -/
def execClose (p : Link) (s : State) : Host.Outcome State Fault Refusal :=
  engineRequest p (fun r => match r with
    | .close => some (sessionRequest false closeBody)
    | _ => none) s

/-! ### LIST_SESSIONS -/

/-- A walk of LIST_SESSIONS: the entries found, the labels of those entries, and the next index once it is known. -/
structure SessWalk where
  entries : List SessListing
  label : List Byte
  next : Nat
  tables : Coord
  deriving DecidableEq, Repr

/-- One step of the walk, at entry `j` (R100): an entry with a sound record is reported while fewer than `limit` are; the
first non-FREE entry beyond gives the next index. A session whose record proves uncorrectable is torn down and not
reported. -/
def sessWalkStep (start limit : Nat) (a : SessWalk) (j : SessIx) : SessWalk :=
  if sessionNumber j < start ∨ a.next ≠ 0 then a
  else
    match (a.tables.sess j).body with
    | none => a
    | some b =>
      if a.entries.length < limit then
        match readSess handler j a.tables with
        | (none, c) => { a with tables := c }
        | (some r, c) =>
          { a with
            entries := a.entries ++ [⟨c.sessHandle j, b.orphaned, b.bound, r.holds.length,
              r.lockWaits + r.counterWaits, r.label.length⟩]
            label := a.label ++ r.label
            tables := c }
      else { a with next := sessionNumber j }

/-- LIST_SESSIONS after the renewal: six entries, or one entry with its label (R100, R101). -/
def listSessionsBody (start : Byte) (wantLabel : Option Bool) (_j : SessIx) (_ctx : RequestContext) (c : Coord) :
    ReplyBody × Coord :=
  let one := wantLabel.getD false
  let a := (indices 32).foldl (sessWalkStep start.toNat (if one then 1 else 6)) ⟨[], [], 0, c⟩
  (.listSessions .ok a.entries a.next (if one then a.label else []), a.tables)

/-- LIST_SESSIONS: the engine takes port `p`'s LIST_SESSIONS (R100, R101). -/
def execListSessions (p : Link) (s : State) : Host.Outcome State Fault Refusal :=
  engineRequest p (fun r => match r with
    | .listSessions start want => some (sessionRequest false (listSessionsBody start want))
    | _ => none) s

/-! ### Orphaning -/

/-- Session `j` becomes ORPHANED if it is OPEN and bound to link `p`, and the notice unit is told so (R94, R113). -/
def orphanOne (p : Link) (j : SessIx) (c : Coord) : Coord :=
  match (c.sess j).body with
  | some b =>
    if b.orphaned = false ∧ b.bound = p then
      (c.setSess j { c.sess j with body := some { b with orphaned := true } }).setBox j (c.box j).orphan
    else c
  | none => c

/-- The engine takes the failure or stop report of port `p` (R94). -/
def orphanLink (p : Link) (c : Coord) : Coord := scan (indices 32) (orphanOne p) c

/-- The engine takes the outstanding failure report of port `p`: sessions OPEN on the link become ORPHANED. The port's
outstanding acknowledgment reports then find no SENT notice and are dropped (R112). -/
def takeFailureAtEngine (p : Link) (s : State) : State :=
  if (s.port p).failEngine then
    (s.setCoord (orphanLink p s.coord)).modPort p fun x => { x with failEngine := false, noticeAcks := [] }
  else s

/-- ORPHAN_SESSIONS (R94). -/
def execOrphanSessions (p : Link) (s : State) : Host.Outcome State Fault Refusal := .next (takeFailureAtEngine p s)

end Sys2Proof.Machine
end

