-- ==== Sys2Proof/Machine/Port.lean ====
section
/-! DEFINITION. A port on its own: its states and the greeting (R136 to R141), acknowledgment and credit (R144, R146),
failure and stop (R151, R152), and the recovery state of its two halves (chapter 9). -/

namespace Sys2Proof.Machine

/-- A port makes a report to the management unit. -/
def Port.report (x : Port) (r : Report) : Port := { x with out := x.out ++ [r] }

/-- A port counts one of its statistics. -/
def Port.count (x : Port) (l : Link) (k : LinkStat) : Port := x.report (.stat l k)

/-- Bit `n` of AUTO_RESTART stands for link Ln (R168). -/
def autoRestart (pm : Params) (l : Link) : Bool := pm.autoRestart.testBit l.val

/-! ### Sending a HELLO -/

/-- The frame is in progress; every frame sent in UP restarts the idle timer (R147). -/
def Port.launch (x : Port) (f : Frame) : Port :=
  { x with inProgress := some f, idleTimer := if x.state = .up then some Config.idleTicks else x.idleTimer }

/-- The HELLO of the part (R139). -/
def Port.helloNow (x : Port) (epoch : BitVec 16) : Hello := ⟨1, 16, x.seen, true, epoch⟩

/-- Send a HELLO (R139, R140). -/
def Port.sendHello (epoch : BitVec 16) (x : Port) : Port :=
  { x with helloDue := false }.launch (.hello (x.helloNow epoch))

/-- A HELLO is to be sent: at once where the lane is idle (R139, R140), and otherwise when the frame in progress ends
(R149). One is due at most: that a second one joins it there is the model's choice (log entry 35). -/
def Port.offerHello (epoch : BitVec 16) (x : Port) : Port :=
  if x.inProgress = none then x.sendHello epoch else { x with helloDue := true }

/-! ### Entering a state -/

/-- Entry to GREETING (R139). -/
def Port.enterGreeting (epoch : BitVec 16) (x : Port) : Port :=
  { x with
    state := .greeting
    seen := false
    partnerDepth := none
    greetingTimer := some Config.greetingTicks
    helloTimer := some Config.helloTicks }.offerHello epoch

/-- Entry to WAITING: the port examines its lane, and moves on to GREETING if the lane is ready (R138). -/
def Port.enterWaiting (epoch : BitVec 16) (x : Port) : Port :=
  let x := { x with state := .waiting, holdoffTimer := none }
  if x.laneReady then x.enterGreeting epoch else x

/-- The recovery state as the port sets it afresh (R154). -/
def Port.resetRecovery (x : Port) : Port :=
  { x with
    discarding := false
    rewindTimer := none
    attempts := 0
    rewindDue := false
    replayPos := none
    markDue := none }

/-- The effects of a failure, or of a stop from GREETING or UP, but for the state entered (R151): timers stopped, the
frame in progress cut off, both buffers emptied, both halves reset, and the reports made. -/
def Port.breakDown (x : Port) (l : Link) (why : FailReason) : Port :=
  let x := x.resetRecovery
  ({ x with
    greetingTimer := none
    helloTimer := none
    helloDue := false
    holdoffTimer := none
    idleTimer := none
    silenceDue := false
    inProgress := none
    replay := []
    rxBuffer := []
    partnerHeard := false
    seen := false
    failDispatcher := true
    failEngine := true
    failNotices := true }).report (.linkFailed l why)

/-- The port enters FAILED, and starts its holdoff timer (R151, R152). -/
def Port.fail (pm : Params) (l : Link) (why : FailReason) (x : Port) : Port :=
  { x.breakDown l why with
    state := .failed
    holdoffTimer := some (Config.finePerCoarse * pm.restartHoldoff) }

/-- The port becomes UP: its UP period starts, the final HELLO is sent, and the management unit is told (R140). -/
def Port.comeUp (epoch : BitVec 16) (l : Link) (depth : Nat) (x : Port) : Port :=
  let x := x.resetRecovery
  ({ x with
    state := .up
    seen := true
    partnerDepth := some depth
    greetingTimer := none
    helloTimer := none
    nextNum := 0
    expected := 0
    sentCount := 0
    taken := 0
    partnerLimit := BitVec.ofNat 8 depth
    replay := []
    rxBuffer := []
    partnerHeard := false
    lastServed := 31
    silence := 0
    silenceDue := false
    idleTimer := some Config.idleTicks
    lastAdvertised := none }.offerHello epoch).report (.linkUp l)

/-! ### Frames received: what every good frame does -/

/-- A good frame received in UP restarts the silence timer, and sets partner heard if it is not a HELLO (R142). A frame
taken after the tick at which the count reached SILENCE_LIMIT, and before that expiry is taken, still saves the link:
R67 and R148 order the two no further (the model's choice, log entry 36). -/
def Port.hear (x : Port) (hello : Bool) : Port :=
  { x with silence := 0, silenceDue := false, partnerHeard := x.partnerHeard || !hello }

/-- Number of the oldest frame of the replay buffer, or the next frame number when it is empty (R144). -/
def Port.oldest (x : Port) : FrameNum :=
  match x.replay with
  | e :: _ => e.num
  | [] => x.nextNum

/-- The code of DEVICE_RESET (R188). -/
def codeDeviceReset : Byte := 26

/-- The port reports the removal of an acknowledged frame: to the notice unit if it carried a notice, to the management
unit if it carried the reply to DEVICE_RESET (R144). The reply is that of a pending reset exactly if its status, byte 0
of its body, is OK: R184 has no other removal perform a reset (log entry 14). -/
def Port.reportRemoved (x : Port) (e : ReplayEntry) : Port :=
  match e.load with
  | .notice h serial => { x with noticeAcks := x.noticeAcks ++ [(h, serial)] }
  | .reply code =>
    if code = codeDeviceReset ∧ e.msg.body.head? = some Status.ok.code then { x with resetAck := true } else x
  | .alert => x

/-- The replay position after the frames numbered before `a` have been removed: it moves to the oldest frame left where
it stood before it, and the replay ends where no frame is left (R162). -/
def Port.replayAfterAck (x : Port) (a : FrameNum) (n : Nat) : Option FrameNum :=
  match x.replayPos with
  | none => none
  | some pos =>
    if n = x.replay.length then none else if (pos - x.oldest).toNat < n then some a else some pos

/-- Remove every frame numbered before `a`, which lies within the buffer, and report each removal in frame order
(R144, R161). -/
def Port.removeBefore (x : Port) (a : FrameNum) : Port :=
  let n := (a - x.oldest).toNat
  let y := (x.replay.take n).foldl Port.reportRemoved x
  { y with replay := x.replay.drop n, replayPos := x.replayAfterAck a n }

/-- Take a received ack (R144): a valid one removes frames, any other fails the port with reason PROTOCOL. -/
def Port.takeAck (pm : Params) (l : Link) (a : FrameNum) (x : Port) : Port :=
  if (a - x.oldest).toNat ≤ x.replay.length then x.removeBefore a else x.fail pm l .protocol

/-- Take a received credit limit (R146): one that grants 0..depth replaces the partner limit, any other fails the port
with reason PROTOCOL. -/
def Port.takeLimit (pm : Params) (l : Link) (limit : Credit) (x : Port) : Port :=
  if (limit - x.sentCount).toNat ≤ x.partnerDepth.getD 0 then { x with partnerLimit := limit }
  else x.fail pm l .protocol

/-- What every good frame other than HELLO does in UP: the silence timer, then its ack, then its limit (R142). A
protocol error in either ends the frame's handling with the port FAILED. -/
def Port.takeHeader (pm : Params) (l : Link) (a : FrameNum) (limit : Credit) (x : Port) : Port :=
  let x := (x.hear false).takeAck pm l a
  if x.state = .up then x.takeLimit pm l limit else x

/-! ### The receiver half -/

/-- The receiver enters DISCARDING from ACCEPTING (R156). -/
def Port.enterDiscarding (pm : Params) (x : Port) : Port :=
  { x with discarding := true, rewindDue := true, rewindTimer := some pm.rewindPeriod, attempts := 1 }

/-- A DATA frame numbered `m`, after its ack and limit (R143, R155, R157). -/
def Port.classifyData (pm : Params) (l : Link) (m : FrameNum) (msg : Message) (x : Port) : Port :=
  if x.discarding then x
  else if m = x.expected then
    if Config.receiveDepth ≤ x.rxBuffer.length then x.fail pm l .protocol
    else
      ({ x with rxBuffer := x.rxBuffer ++ [msg], expected := x.expected + 1 }).count l .framesAccepted
  else if (x.expected - m).toNat ≤ Config.replayDepth then x.count l .duplicatesDropped
  else (x.count l .sequenceErrors).enterDiscarding pm

/-- A frame that fails its check (R142, R155, R157): counted in GREETING and UP, and an ACCEPTING receiver of an UP port
enters DISCARDING. -/
def Port.rejectFrame (pm : Params) (l : Link) (x : Port) : Port :=
  match x.state with
  | .greeting => x.count l .framesRejected
  | .up =>
    let y := x.count l .framesRejected
    if x.discarding then y else y.enterDiscarding pm
  | _ => x

/-- A good DATA frame (R142, R155, R157); a port that is not UP drops it (R137, R141). -/
def Port.receiveData (pm : Params) (l : Link) (m a : FrameNum) (limit : Credit) (msg : Message) (x : Port) : Port :=
  if x.state = .up then
    let x := x.takeHeader pm l a limit
    if x.state = .up then x.classifyData pm l m msg else x
  else x

/-- A good IDLE (R142). -/
def Port.receiveIdle (pm : Params) (l : Link) (a : FrameNum) (limit : Credit) (x : Port) : Port :=
  if x.state = .up then x.takeHeader pm l a limit else x

/-- A good MARK, after its ack and limit (R155, R157): one that carries the expected number returns a DISCARDING receiver
to ACCEPTING, and cancels a REWIND still due. -/
def Port.takeMark (n : FrameNum) (x : Port) : Port :=
  if x.discarding ∧ n = x.expected then
    { x with discarding := false, rewindTimer := none, attempts := 0, rewindDue := false }
  else x

/-- A good MARK (R155, R157). -/
def Port.receiveMark (pm : Params) (l : Link) (a : FrameNum) (limit : Credit) (n : FrameNum) (x : Port) : Port :=
  if x.state = .up then
    let x := x.takeHeader pm l a limit
    if x.state = .up then x.takeMark n else x
  else x

/-! ### The sender half's answer to a REWIND -/

/-- The number of a good REWIND, after its ack and limit (R160, R161, R163): in range it removes the frames before it,
makes a MARK due and starts or restarts the replay; out of range it is stale. -/
def Port.takeRewind (l : Link) (n : FrameNum) (x : Port) : Port :=
  if (n - x.oldest).toNat ≤ x.replay.length then
    let y := x.removeBefore n
    ({ y with markDue := some n, replayPos := if y.replay = [] then none else some n }).count l .replaysStarted
  else x.count l .staleRewinds

/-- A good REWIND (R155, R157, R160). -/
def Port.receiveRewind (pm : Params) (l : Link) (a : FrameNum) (limit : Credit) (n : FrameNum) (x : Port) : Port :=
  if x.state = .up then
    let x := x.takeHeader pm l a limit
    if x.state = .up then x.takeRewind l n else x
  else x

/-! ### The greeting -/

/-- A HELLO received in GREETING is valid: role HOST, revision 1, depth in 1..16 (R140). -/
def helloValid (h : Hello) : Bool :=
  !h.role && h.revision == 1 && decide (1 ≤ h.depth.toNat ∧ h.depth.toNat ≤ 16)

/-- A HELLO received in UP (R141): a straggler is dropped, any other fails the port. A straggler is a good frame, so it
restarts the silence timer (R142, R148), although R141 drops it with no effect (the model's choice, log entry 37). -/
def Port.helloWhileUp (pm : Params) (l : Link) (h : Hello) (x : Port) : Port :=
  let y := x.hear true
  if h.seen && !x.partnerHeard then y else y.fail pm l .partnerRestart

/-- A valid HELLO received in GREETING records the depth and sets the seen flag (R140). -/
def Port.helloSeen (h : Hello) (x : Port) : Port := { x with partnerDepth := some h.depth.toNat, seen := true }

/-! ### Lane conditions, START and STOP -/

/-- The lane reports ready (R138); an OFF port's lane is followed, but moves nothing. -/
def Port.laneBecomesReady (epoch : BitVec 16) (x : Port) : Port :=
  let x := { x with laneReady := true }
  if x.state = .waiting then x.enterGreeting epoch else x

/-- The lane reports lost (R138). -/
def Port.laneBecomesLost (pm : Params) (l : Link) (x : Port) : Port :=
  let x := { x with laneReady := false }
  if x.state = .greeting ∨ x.state = .up then x.fail pm l .laneLost else x

/-- LINK_CONTROL START at the port (R152). -/
def Port.start (epoch : BitVec 16) (x : Port) : Port :=
  match x.state with
  | .off | .failed => x.enterWaiting epoch
  | _ => x

/-- LINK_CONTROL STOP at the port (R152). -/
def Port.stop (l : Link) (x : Port) : Port :=
  match x.state with
  | .waiting => { x with state := .off }
  | .greeting | .up => { x.breakDown l .stopped with state := .off }
  | .failed => { x with state := .off, holdoffTimer := none }
  | .off => x

/-- The port after a reset of the part: WAITING as after power-on, or on to GREETING, with its lane's condition kept
(R138, R153). -/
def Port.afterReset (epoch : BitVec 16) (x : Port) : Port :=
  { Port.initial with laneReady := x.laneReady }.enterWaiting epoch

/-- The port at the performance of a DEVICE_RESET: as after power-on, but that an OFF port stays OFF (R153). Reports of the
port that no unit has taken yet are gone: the tables they concern are cleared by the reset (log entry 8). -/
def Port.deviceReset (epoch : BitVec 16) (x : Port) : Port :=
  if x.state = .off then { Port.initial with laneReady := x.laneReady, state := .off } else x.afterReset epoch

/-! ### Becoming UP -/

/-- Failure reports of the port that are still outstanding are taken before its new UP period starts: the dispatcher
starts it with every slot FREE (R132), and the sessions of the old period stay ORPHANED (R94). -/
def settleFailure (p : Link) (s : State) : State :=
  takeFailureAtNotices p (takeFailureAtEngine p (takeFailureAtDispatcher p s))

/-- A good HELLO (R140, R141). One that brings the port UP after the tick at which its greeting timer ran out, and before
that expiry is taken, still does so: R67 orders the two no further (the model's choice, log entry 36). -/
def receiveHello (p : Link) (h : Hello) (s : State) : State :=
  match (s.port p).state with
  | .greeting =>
    if helloValid h then
      if h.seen then (settleFailure p s).modPort p (Port.comeUp s.mgmt.epoch p h.depth.toNat)
      else s.modPort p (Port.helloSeen h)
    else s
  | .up => s.modPort p (Port.helloWhileUp s.mgmt.params p h)
  | _ => s

end Sys2Proof.Machine
end

