-- ==== Sys2Proof/Machine/Device.lean ====
section
/-! DEFINITION. The device requests (chapter 10): IDENTIFY, PARAM_GET, PARAM_SET, STATS_GET, LINK_CONTROL with its two
commands, and DEVICE_RESET as a request. -/

namespace Sys2Proof.Machine

/-! ### Parameters -/

/-- Ids of the parameters are 1..9 (R168). -/
def paramIdOk (id : Byte) : Bool := decide (1 ≤ id.toNat ∧ id.toNat ≤ 9)

/-- Range of each parameter (R168); no value is in the range of another id. -/
def paramRange (id : Byte) : Nat × Nat :=
  match id.toNat with
  | 1 => (0, 3)
  | 2 => (50, 60000)
  | 3 => (2, 255)
  | 4 => (1, 15)
  | 5 => (10, 2550)
  | 6 => (1, 1000)
  | 7 => (0, 15)
  | 8 => (0, 1)
  | 9 => (0, 63)
  | _ => (1, 0)

/-- Value of a parameter (R168). -/
def Params.get (pm : Params) (id : Byte) : Nat :=
  match id.toNat with
  | 1 => pm.mgmtLink
  | 2 => pm.defaultLease
  | 3 => pm.rewindPeriod
  | 4 => pm.rewindLimit
  | 5 => pm.silenceLimit
  | 6 => pm.restartHoldoff
  | 7 => pm.autoRestart
  | 8 => pm.scrub
  | 9 => pm.alertMask
  | _ => 0

/-- Set a parameter (R170). -/
def Params.set (pm : Params) (id : Byte) (v : Nat) : Params :=
  match id.toNat with
  | 1 => { pm with mgmtLink := v }
  | 2 => { pm with defaultLease := v }
  | 3 => { pm with rewindPeriod := v }
  | 4 => { pm with rewindLimit := v }
  | 5 => { pm with silenceLimit := v }
  | 6 => { pm with restartHoldoff := v }
  | 7 => { pm with autoRestart := v }
  | 8 => { pm with scrub := v }
  | 9 => { pm with alertMask := v }
  | _ => pm

/-- The port numbered `n`, if there is one. -/
def linkOf? (n : Nat) : Option Link := if h : n < 4 then some ⟨n, h⟩ else none

/-- Port `l` does not return to WAITING without a START: it is OFF, or FAILED with its AUTO_RESTART bit clear (R170). -/
def staysDown (l : Link) (s : State) : Bool :=
  (s.port l).state == .off || ((s.port l).state == .failed && !autoRestart s.mgmt.params l)

/-- A FAILED port whose holdoff has expired goes to WAITING when its AUTO_RESTART bit is set (R152). -/
def Port.autoRestarted (pm : Params) (epoch : BitVec 16) (l : Link) (x : Port) : Port :=
  if x.state = .failed ∧ x.holdoffTimer = none ∧ autoRestart pm l then x.enterWaiting epoch else x

/-- The new value takes effect (R168, R170): AUTO_RESTART may move FAILED ports at once. -/
def applyParam (id : Byte) (v : Nat) (s : State) : State :=
  let s := s.setMgmt { s.mgmt with params := s.mgmt.params.set id v }
  if id.toNat = 7 then
    (indices 4).foldl (fun s l => s.modPort l (Port.autoRestarted s.mgmt.params s.mgmt.epoch l)) s
  else s

/-- PARAM_SET (R170). -/
def paramSetBody (id : Byte) (v : Nat) : MgmtBody := fun _ s =>
  let inForce := s.mgmt.params.get id
  if !paramIdOk id then (.param .range 0 0, s)
  else if v < (paramRange id).1 ∨ (paramRange id).2 < v then (.param .range id.toNat inForce, s)
  else if id.toNat = 1 ∧ (linkOf? v).any (fun l => staysDown l s) then (.param .range id.toNat inForce, s)
  else (.param .ok id.toNat v, applyParam id v s)

/-- PARAM_GET (R169). -/
def paramGetBody (id : Byte) : MgmtBody := fun _ s =>
  if paramIdOk id then (.param .ok id.toNat (s.mgmt.params.get id), s) else (.param .range 0 0, s)

/-! ### Identification and statistics -/

/-- IDENTIFY (R167). -/
def identifyBody : MgmtBody := fun _ s => (.identify .ok s.mgmt.epoch s.mgmt.cause, s)

/-- The counters of a group, in reply order: a link's for 0..3, the device's otherwise (R171). -/
def groupCounters (group : Nat) (m : Mgmt) : List Nat :=
  match linkOf? group with
  | some l => m.linkStats[l].counters
  | none => m.deviceStats.counters

/-- The counters of a group are set to 0 (R172). -/
def clearGroup (group : Nat) (m : Mgmt) : Mgmt :=
  match linkOf? group with
  | some l => { m with linkStats := tableSet m.linkStats l {} }
  | none => { m with deviceStats := {} }

/-- STATS_GET (R172). -/
def statsGetBody (group : Byte) (clear : Bool) : MgmtBody := fun _ s =>
  if 4 < group.toNat then (.stats .range group.toNat [], s)
  else
    (.stats .ok group.toNat (groupCounters group.toNat s.mgmt),
      if clear then s.setMgmt (clearGroup group.toNat s.mgmt) else s)

/-! ### Link control -/

/-- A LINK_CONTROL refused by the management unit, whatever the refusal, reports the link and the state of its port, or
link 0 and OFF where there is no such link (R176). One that a generic check of the dispatcher refuses never reaches the
unit, and has the body of R125, `refusal` (log entry 43). -/
def linkRefusal (st : Status) (link : Byte) (s : State) : ReplyBody :=
  match linkOf? link.toNat with
  | some l => .linkControl st l.val (s.port l).state
  | none => .linkControl st 0 .off

/-- LINK_CONTROL START is command 0, and STOP command 1: their places in the list of R176 (R188). -/
def codeStop : Byte := 1

/-- LINK_CONTROL of any command but STOP (R176, R152): START acts on the port, any other byte gives RANGE. -/
def linkStartBody (link command : Byte) : MgmtBody := fun _ s =>
  match linkOf? link.toNat with
  | some l =>
    if command = 0 then
      let s := s.modPort l (Port.start s.mgmt.epoch)
      (.linkControl .ok l.val (s.port l).state, s)
    else (linkRefusal .range link s, s)
  | none => (linkRefusal .range link s, s)

/-- LINK_CONTROL STOP (R176, R152). -/
def linkStopBody (link : Byte) : MgmtBody := fun ctx s =>
  match linkOf? link.toNat with
  | some l =>
    if l = ctx.link then (linkRefusal .notPermitted link s, s)
    else
      let s := s.modPort l (Port.stop l)
      (.linkControl .ok l.val (s.port l).state, s)
  | none => (linkRefusal .range link s, s)

/-! ### The request DEVICE_RESET -/

/-- Scope of a DEVICE_RESET, by its place in the list of R183. -/
def scopeOf? (b : Byte) : Option Scope := if b = 0 then some .sessions else if b = 1 then some .all else none

/-- DEVICE_RESET (R183): the reply announces the new epoch, reset pending is set, and the grace timer starts. -/
def deviceResetBody (scope : Byte) : MgmtBody := fun _ s =>
  match scopeOf? scope with
  | none => (.deviceReset .range 0 0, s)
  | some sc =>
    (.deviceReset .ok sc.code.toNat (advanceEpoch s.mgmt.epoch),
      s.setMgmt { s.mgmt with reset := some sc, grace := some Config.graceTicks })

/-! ### The commands -/

/-- The reply where the arrival link is no longer the management link, for the requests with no rule of their own on a
refused reply's fields (R125, R129). -/
def plainRefusal (code : Byte) : State → ReplyBody := fun _ => refusal code 0 .notPermitted

/-- IDENTIFY: the management unit takes port `p`'s IDENTIFY (R167). -/
def execIdentify (p : Link) (s : State) : Host.Outcome State Fault Refusal :=
  mgmtRequest p (fun r => match r with
    | .identify => some (identifyBody, plainRefusal r.code)
    | _ => none) s

/-- PARAM_GET: the management unit takes port `p`'s PARAM_GET (R169). -/
def execParamGet (p : Link) (s : State) : Host.Outcome State Fault Refusal :=
  mgmtRequest p (fun r => match r with
    | .paramGet id => some (paramGetBody id, plainRefusal r.code)
    | _ => none) s

/-- PARAM_SET: the management unit takes port `p`'s PARAM_SET (R170). -/
def execParamSet (p : Link) (s : State) : Host.Outcome State Fault Refusal :=
  mgmtRequest p (fun r => match r with
    | .paramSet id v => some (paramSetBody id v, plainRefusal r.code)
    | _ => none) s

/-- STATS_GET: the management unit takes port `p`'s STATS_GET (R172). -/
def execStatsGet (p : Link) (s : State) : Host.Outcome State Fault Refusal :=
  mgmtRequest p (fun r => match r with
    | .statsGet g clear => some (statsGetBody g clear, plainRefusal r.code)
    | _ => none) s

/-- LINK_CONTROL_START: the management unit takes port `p`'s LINK_CONTROL whose command is not STOP (R176, R152). -/
def execLinkControlStart (p : Link) (s : State) : Host.Outcome State Fault Refusal :=
  mgmtRequest p (fun r => match r with
    | .linkControl link command =>
      if command = codeStop then none else some (linkStartBody link command, linkRefusal .notPermitted link)
    | _ => none) s

/-- LINK_CONTROL_STOP: the management unit takes port `p`'s LINK_CONTROL STOP (R176, R152). -/
def execLinkControlStop (p : Link) (s : State) : Host.Outcome State Fault Refusal :=
  mgmtRequest p (fun r => match r with
    | .linkControl link command =>
      if command = codeStop then some (linkStopBody link, linkRefusal .notPermitted link) else none
    | _ => none) s

/-- DEVICE_RESET: the management unit takes port `p`'s DEVICE_RESET (R183). -/
def execDeviceReset (p : Link) (s : State) : Host.Outcome State Fault Refusal :=
  mgmtRequest p (fun r => match r with
    | .deviceReset scope => some (deviceResetBody scope, plainRefusal r.code)
    | _ => none) s

end Sys2Proof.Machine
end

