-- ==== Sys2Proof/Machine/Links.lean ====
section
/-! DEFINITION. The events of the links: the lanes, the frames received, and the timers of a port (chapters 8 and 9). -/

namespace Sys2Proof.Machine

/-! ### Lanes and frames -/

/-- LANE_READY (R138). -/
def execLaneReady (p : Link) (s : State) : Host.Outcome State Fault Refusal :=
  .next (s.modPort p (Port.laneBecomesReady s.mgmt.epoch))

/-- LANE_LOST (R138). -/
def execLaneLost (p : Link) (s : State) : Host.Outcome State Fault Refusal :=
  .next (s.modPort p (Port.laneBecomesLost s.mgmt.params p))

/-- RECEIVE_DATA (R142, R143, R155, R157). A frame too long to be a DATA frame is no good frame, and is rejected
(R187). -/
def execReceiveData (p : Link) (num ack : FrameNum) (limit : Credit) (msg : Message) (s : State) :
    Host.Outcome State Fault Refusal :=
  .next (s.modPort p
    (if msg.fitsFrame then Port.receiveData s.mgmt.params p num ack limit msg else Port.rejectFrame s.mgmt.params p))

/-- RECEIVE_IDLE (R142). -/
def execReceiveIdle (p : Link) (ack : FrameNum) (limit : Credit) (s : State) : Host.Outcome State Fault Refusal :=
  .next (s.modPort p (Port.receiveIdle s.mgmt.params p ack limit))

/-- RECEIVE_REWIND (R160, R161, R163). -/
def execReceiveRewind (p : Link) (ack : FrameNum) (limit : Credit) (n : FrameNum) (s : State) :
    Host.Outcome State Fault Refusal :=
  .next (s.modPort p (Port.receiveRewind s.mgmt.params p ack limit n))

/-- RECEIVE_MARK (R155, R157). -/
def execReceiveMark (p : Link) (ack : FrameNum) (limit : Credit) (n : FrameNum) (s : State) :
    Host.Outcome State Fault Refusal :=
  .next (s.modPort p (Port.receiveMark s.mgmt.params p ack limit n))

/-- RECEIVE_HELLO (R140, R141). -/
def execReceiveHello (p : Link) (h : Hello) (s : State) : Host.Outcome State Fault Refusal := .next (receiveHello p h s)

/-- REJECTED_FRAME (R142, R156). -/
def execRejectedFrame (p : Link) (s : State) : Host.Outcome State Fault Refusal :=
  .next (s.modPort p (Port.rejectFrame s.mgmt.params p))

/-! ### Timers -/

/-- The greeting timer has expired in GREETING (R139). -/
def Port.greetingExpiry (pm : Params) (l : Link) (x : Port) : Port :=
  if x.state = .greeting ∧ x.greetingTimer = some 0 then x.fail pm l .noGreeting else x

/-- The HELLO timer has expired in GREETING: another HELLO is sent, and the timer restarts (R139). -/
def Port.helloExpiry (epoch : BitVec 16) (x : Port) : Port :=
  if x.state = .greeting ∧ x.helloTimer = some 0 then
    { x with helloTimer := some Config.helloTicks }.offerHello epoch
  else x

/-- The holdoff timer has expired in FAILED: to WAITING if the AUTO_RESTART bit is set (R152). -/
def Port.holdoffExpiry (pm : Params) (epoch : BitVec 16) (l : Link) (x : Port) : Port :=
  if x.state = .failed ∧ x.holdoffTimer = some 0 then
    if autoRestart pm l then x.enterWaiting epoch else { x with holdoffTimer := none }
  else x

/-- The silence timer has reached SILENCE_LIMIT (R148). -/
def Port.silenceExpiry (pm : Params) (l : Link) (x : Port) : Port :=
  if x.state = .up ∧ x.silenceDue then x.fail pm l .silence else x

/-- The rewind timer has expired while DISCARDING (R158). -/
def Port.rewindExpiry (pm : Params) (l : Link) (x : Port) : Port :=
  if x.state = .up ∧ x.discarding ∧ x.rewindTimer = some 0 then
    if x.attempts < pm.rewindLimit then
      { x with attempts := x.attempts + 1, rewindDue := true, rewindTimer := some pm.rewindPeriod }
    else x.fail pm l .rewindLimit
  else x

/-- GREETING_TIMER_EXPIRY (R139). -/
def execGreetingTimerExpiry (p : Link) (s : State) : Host.Outcome State Fault Refusal :=
  .next (s.modPort p (Port.greetingExpiry s.mgmt.params p))

/-- HELLO_TIMER_EXPIRY (R139). -/
def execHelloTimerExpiry (p : Link) (s : State) : Host.Outcome State Fault Refusal :=
  .next (s.modPort p (Port.helloExpiry s.mgmt.epoch))

/-- HOLDOFF_TIMER_EXPIRY (R152). -/
def execHoldoffTimerExpiry (p : Link) (s : State) : Host.Outcome State Fault Refusal :=
  .next (s.modPort p (Port.holdoffExpiry s.mgmt.params s.mgmt.epoch p))

/-- SILENCE_LIMIT_REACHED (R148). -/
def execSilenceLimitReached (p : Link) (s : State) : Host.Outcome State Fault Refusal :=
  .next (s.modPort p (Port.silenceExpiry s.mgmt.params p))

/-- REWIND_TIMER_EXPIRY (R158). -/
def execRewindTimerExpiry (p : Link) (s : State) : Host.Outcome State Fault Refusal :=
  .next (s.modPort p (Port.rewindExpiry s.mgmt.params p))

end Sys2Proof.Machine
end

