-- ==== Sys2Proof/Machine/Reset.lean ====
section
/-! DEFINITION. The resets: a DEVICE_RESET as every block performs it (R184), the two events that perform it, and
power-on and RESET_N (R186). -/

namespace Sys2Proof.Machine

/-! ### The tables at a DEVICE_RESET -/

/-- A session entry is freed by its header; an entry already FREE keeps its generation (R103). -/
def SessEntry.reset (e : SessEntry) : SessEntry := if e.body.isSome then ⟨advanceGen e.gen, none⟩ else e

/-- A wait record that was in use is freed; a free one keeps its generation (R81). -/
def WaitEntry.reset (e : WaitEntry) : WaitEntry := if e.body.isSome then ⟨advanceGen e.gen, none⟩ else e

/-- Every session and wait freed, every notice queue empty (R103, R81, R116). -/
def Coord.clearSessions (c : Coord) : Coord :=
  { c with
    sessions := tableMap SessEntry.reset c.sessions
    waits := tableMap WaitEntry.reset c.waits
    boxes := Vector.replicate 32 ⟨none, []⟩ }

/-- A lock at a reset of scope SESSIONS (R42). -/
def LockRecord.reset (l : LockRecord) : LockRecord :=
  { l with abandoned := l.abandoned || !l.holders.isEmpty, holders := [], mode := .free, queue := [] }

/-- Object entry `i` at a reset of scope SESSIONS (R16, R42, R63): a LIVE record is read, and one that proves
uncorrectable becomes FAULTED. -/
def resetObject (i : ObjIx) (c : Coord) : Coord :=
  match readObj handler i c with
  | (some ⟨_, .lock l⟩, c) => c.setLock i l.reset
  | (some ⟨_, .counter k⟩, c) => c.setCounter i { k with waiters := [] }
  | (none, c) => c

/-- An object entry at a reset of scope ALL: FREE, with its generation advanced, FREE entries included (R16). -/
def ObjEntry.resetAll (e : ObjEntry) : ObjEntry := ⟨advanceGen e.gen, .free⟩

/-- The engine and the notice unit at a DEVICE_RESET (R184). Under scope SESSIONS the LIVE records are read in ascending
index, which orders the reports of those that prove uncorrectable: R16, R42, R63 and R184 give no order (the model's
choice, log entry 39). -/
def Coord.deviceReset (sc : Scope) (c : Coord) : Coord :=
  match sc with
  | .sessions => scan (indices 256) resetObject c.clearSessions
  | .all => { c.clearSessions with objects := tableMap ObjEntry.resetAll c.objects }

/-! ### The other blocks at a DEVICE_RESET -/

/-- A dispatcher at a DEVICE_RESET: every slot FREE, no freeing reports, occupancy numbers kept (R135). -/
def Dispatcher.deviceReset (d : Dispatcher) : Dispatcher where
  slots := tableMap (fun x => { x with body := .free }) d.slots
  queue := []
  freed := []
  out := []

/-- Reset cause of a scope (R167). -/
def Scope.cause : Scope → Cause
  | .sessions => .resetSessions
  | .all => .resetAll

/-- The management unit at a DEVICE_RESET, before the alert (R184). -/
def Mgmt.clearedBy (sc : Scope) (m : Mgmt) : Mgmt :=
  { m with
    epoch := advanceEpoch m.epoch
    cause := sc.cause
    reset := none
    grace := none
    alerts := []
    faultedCount := if sc = Scope.all then 0 else m.faultedCount
    lastServed := 3 }

/-- The management unit at a DEVICE_RESET: the DEVICE_RESET alert is the first entry of the emptied queue, subject to
ALERT_MASK (R184). -/
def Mgmt.deviceReset (sc : Scope) (m : Mgmt) : Mgmt :=
  (m.clearedBy sc).raiseAlert (.deviceReset sc (advanceEpoch m.epoch))

/-- The performance of a DEVICE_RESET, by every block within the one event (R184). The reports the management unit has
still to take are taken first. -/
def performReset (sc : Scope) (s : State) : State :=
  let s := drainReports s
  { s with
    coord := s.coord.deviceReset sc
    ports := tableMap (Port.deviceReset (advanceEpoch s.mgmt.epoch)) s.ports
    disps := tableMap Dispatcher.deviceReset s.disps
    mgmt := s.mgmt.deviceReset sc
    engineLast := 3
    timebase := ⟨0, 0, 0⟩
    patrol := { s.patrol with position := 0 } }

/-- A pending reset is performed; without one the event is dropped (R184). -/
def performPending (s : State) : State :=
  match s.mgmt.reset with
  | some sc => performReset sc s
  | none => s

/-- The expiry of the grace timer (R184). -/
def graceExpiry (s : State) : State :=
  if s.mgmt.grace = some 0 then performPending (s.setMgmt { s.mgmt with grace := none }) else s

/-- GRACE_TIMER_EXPIRY (R184). -/
def execGraceTimerExpiry (s : State) : Host.Outcome State Fault Refusal := .next (graceExpiry s)

/-- The lowest-numbered port whose report of a removed DEVICE_RESET reply is outstanding. -/
def resetAckPort? (s : State) : Option Link := (indices 4).find? fun p => (s.port p).resetAck

/-- RESET_REPLY_ACKED (R184): the management unit takes a port's report that the frame carrying the pending reset's own
reply has been removed (R144, R161). -/
def execResetReplyAcked (s : State) : Host.Outcome State Fault Refusal :=
  match resetAckPort? s with
  | some p => .next (performPending (s.modPort p fun x => { x with resetAck := false }))
  | none => .next s

/-! ### Power-on and RESET_N -/

/-- The whole part in its initial state, each port examining its own lane (R186, R153). The commands that are waiting
stay. -/
def partReset (cause : Cause) (s : State) : State :=
  { State.initial cause with ports := tableMap (Port.afterReset 1) s.ports, pending := s.pending }

/-- POWER_ON (R186). -/
def execPowerOn (s : State) : Host.Outcome State Fault Refusal := .next (partReset .powerOn s)

/-- RESET_N (R186): the state from the moment the pin returns high. -/
def execResetN (s : State) : Host.Outcome State Fault Refusal := .next (partReset .pin s)

end Sys2Proof.Machine
end

