-- ==== Sys2Proof/Machine/Sender.lean ====
section
/-! DEFINITION. The sender half of a port: what it selects next (R149, R150), the frames it builds (R144 to R147, R159,
R161, R162), and SELECT_NEXT_FRAME and IDLE_TIMER_EXPIRY. -/

namespace Sys2Proof.Machine

/-! ### What waits to be sent -/

/-- The credit limit advertised: T + 16, modulo 256 (R146). -/
def Port.limitNow (x : Port) : Credit := x.taken + 16

/-- The ack and the credit limit that a frame selected now carries (R144, R146). -/
def Port.advertNow (x : Port) : FrameNum × Credit := (x.expected, x.limitNow)

/-- The credit: (partner limit − N) modulo 256 (R146). -/
def Port.credit (x : Port) : Nat := (x.partnerLimit - x.sentCount).toNat

/-- A new DATA frame may be sent: fewer than 24 frames are in the replay buffer, and the credit lies in 1..partner depth
(R145, R146). -/
def Port.mayNew (x : Port) : Bool :=
  decide (x.replay.length < Config.replayDepth) &&
    decide (1 ≤ x.credit ∧ x.credit ≤ x.partnerDepth.getD 0)

/-- The frame at the replay position, while REPLAYING (R162). -/
def Port.replayEntry? (x : Port) : Option ReplayEntry :=
  match x.replayPos with
  | some pos => x.replay[(pos - x.oldest).toNat]?
  | none => none

/-- The head reply of the reply queue, with its slot, if the head slot is FINISHED (R131). -/
def Dispatcher.headReply? (d : Dispatcher) : Option (SlotIx × Reply) :=
  match d.queue with
  | k :: _ =>
    match (d.slot k).body with
    | .finished r => some (k, r)
    | _ => none
  | [] => none

/-- The oldest alert, if port `p` is the management link (R149 precedence 4). -/
def nextAlert? (p : Link) (m : Mgmt) : Option Alert := if m.params.mgmtLink = p.val then m.alerts.head? else none

/-- The notice of a session that is eligible for the sender of link `p`, with the session's generation: the oldest UNSENT
one, if it is not held and the session is OPEN on the link (R110). -/
def NoticeBox.eligible? (p : Link) (b : NoticeBox) : Option (Byte × Notice) :=
  match b.view with
  | some v =>
    if v.orphaned = false ∧ v.link = p then
      match b.queue.find? fun n => !n.sent with
      | some n => if n.held.isNone then some (v.gen, n) else none
      | none => none
    else none
  | none => none

/-- The 32 session indices in cyclic order, beginning after the last served one (R150). -/
def sessionsAfter (last : SessIx) : List SessIx := (indices 32).map fun k => last + 1 + k

/-- The first session in the rotation that hands over a notice, with its generation and the notice (R150). -/
def nextNotice? (p : Link) (last : SessIx) (c : Coord) : Option (SessIx × Byte × Notice) :=
  (sessionsAfter last).findSome? fun j => ((c.box j).eligible? p).map fun (g, n) => (j, g, n)

/-- An IDLE would be sent if no DATA frame may be: the ack or limit has changed, or the idle timer has expired (R147). -/
def Port.idleDue (x : Port) : Bool := x.lastAdvertised != some x.advertNow || x.idleTimer == some 0

/-! ### The choice -/

/-- What the sender sends next. -/
inductive Choice where
  | hello
  | rewind
  | mark (n : FrameNum)
  | replay (e : ReplayEntry)
  | reply (k : SlotIx) (r : Reply)
  | alert (a : Alert)
  | notice (j : SessIx) (gen : Byte) (n : Notice)
  | idle
  | nothing
  deriving DecidableEq, Repr

/-- A new DATA frame by precedences 3 to 5 of R149, if one may be sent and something waits. -/
def chooseNew (p : Link) (s : State) : Option Choice :=
  if (s.port p).mayNew then
    match (s.disp p).headReply? with
    | some (k, r) => some (.reply k r)
    | none =>
      match nextAlert? p s.mgmt with
      | some a => some (.alert a)
      | none => (nextNotice? p (s.port p).lastServed s.coord).map fun (j, g, n) => .notice j g n
  else none

/-- The sender's choice in UP (R140, R149, R164): the final HELLO first, then a REWIND, a MARK, the replay, new DATA, and
IDLE. -/
def chooseUp (p : Link) (s : State) : Choice :=
  let x := s.port p
  if x.helloDue then .hello
  else if x.rewindDue then .rewind
  else
    match x.markDue with
    | some n => .mark n
    | none =>
      match x.replayEntry? with
      | some e => .replay e
      | none => (chooseNew p s).getD (if x.idleDue then .idle else .nothing)

/-- The sender's choice: HELLOs alone in GREETING, and nothing in OFF, WAITING and FAILED (R137, R139, R149). -/
def choose (p : Link) (s : State) : Choice :=
  match (s.port p).state with
  | .greeting => if (s.port p).helloDue then .hello else .nothing
  | .up => chooseUp p s
  | _ => .nothing

/-! ### Sending -/

/-- A frame that carries ack and limit updates the last advertised ones (R147). -/
def Port.launchWith (x : Port) (f : FrameNum → Credit → Frame) : Port :=
  { x with lastAdvertised := some x.advertNow }.launch (f x.expected x.limitNow)

/-- Send a REWIND with the expected number (R159). -/
def Port.sendRewind (l : Link) (x : Port) : Port :=
  ({ x with rewindDue := false }.launchWith fun a c => .rewind a c x.expected).count l .rewindsSent

/-- Send a MARK (R161). -/
def Port.sendMark (n : FrameNum) (x : Port) : Port := { x with markDue := none }.launchWith fun a c => .mark a c n

/-- Resend a frame of the replay buffer, with the ack and limit of now; the replay ends behind the last frame (R162). -/
def Port.sendReplay (e : ReplayEntry) (x : Port) : Port :=
  { x with replayPos := if e.num + 1 = x.nextNum then none else some (e.num + 1) }.launchWith
    fun a c => .data e.num a c e.msg

/-- A new frame is appended to the replay buffer with the next frame number, and both counts rise (R145). -/
def Port.appendNew (load : Carried) (msg : Message) (x : Port) : Port :=
  { x with
    nextNum := x.nextNum + 1
    sentCount := x.sentCount + 1
    replay := x.replay ++ [⟨x.nextNum, msg, load⟩] }

/-- Send a new DATA frame: it takes the next frame number and a place in the replay buffer, and N rises (R145). -/
def Port.sendNew (load : Carried) (msg : Message) (x : Port) : Port :=
  (x.appendNew load msg).launchWith fun a c => .data x.nextNum a c msg

/-- Send an IDLE (R147). -/
def Port.sendIdle (x : Port) : Port := x.launchWith .idle

/-- The head reply leaves the queue: its slot is freed and reported, and a request held for want of a FREE slot is taken
into it (R131, R122). While a reset is pending every FINISHED reply is handed over in its turn, on the management link
those behind the DEVICE_RESET reply too (the model's choice, log entry 41). -/
def handOver (p : Link) (k : SlotIx) (r : Reply) (s : State) : State :=
  let full := (s.disp p).freeSlot?.isNone
  let s := s.modPort p (Port.sendNew (.reply r.code) r.message)
  let s := s.modDisp p fun d => { d with queue := d.queue.tail }.freeSlot p k
  if full then takeHeadRequest p s else s

/-- The oldest UNSENT notice becomes SENT (R111). -/
def markOldest : List Notice → List Notice
  | [] => []
  | n :: rest => if n.sent then n :: markOldest rest else { n with sent := true } :: rest

/-- The notice unit hands over the notice of session `j`: it becomes SENT, and the session is the last served one (R111,
R150). -/
def sendNotice (p : Link) (j : SessIx) (g : Byte) (n : Notice) (s : State) : State :=
  let h := Machine.sessHandle j g
  let s := s.setCoord (s.coord.setBox j { s.coord.box j with queue := markOldest (s.coord.box j).queue })
  s.modPort p fun x => { x with lastServed := j }.sendNew (.notice h n.serial) (n.message h)

/-- The management link's sender takes the oldest alert (R174, R175). -/
def sendAlert (p : Link) (a : Alert) (s : State) : State :=
  (s.setMgmt { s.mgmt with alerts := s.mgmt.alerts.tail }).modPort p (Port.sendNew .alert a.message)

/-- The sender sends what it has chosen. -/
def perform (p : Link) (s : State) : Choice → State
  | .hello => s.modPort p (Port.sendHello s.mgmt.epoch)
  | .rewind => s.modPort p (Port.sendRewind p)
  | .mark n => s.modPort p (Port.sendMark n)
  | .replay e => s.modPort p (Port.sendReplay e)
  | .reply k r => handOver p k r s
  | .alert a => sendAlert p a s
  | .notice j g n => sendNotice p j g n s
  | .idle => s.modPort p Port.sendIdle
  | .nothing => s

/-- The frame in progress has ended, and the sender selects the next one (R149). -/
def selectNext (p : Link) (s : State) : State :=
  let s := s.modPort p fun x => { x with inProgress := none }
  perform p s (choose p s)

/-- SELECT_NEXT_FRAME (R149). -/
def execSelectNextFrame (p : Link) (s : State) : Host.Outcome State Fault Refusal := .next (selectNext p s)

/-- The expiry of the idle timer, where the lane is idle and no DATA frame may be sent, sends an IDLE (R147). With a
frame in progress the expiry waits for the frame's end, and where DATA may be sent the next frame sent restarts the
timer. -/
def idleExpiry (p : Link) (s : State) : State :=
  let x := s.port p
  if x.state = .up ∧ x.idleTimer = some 0 ∧ x.inProgress = none ∧ choose p s = .idle then s.modPort p Port.sendIdle
  else s

/-- IDLE_TIMER_EXPIRY (R147). -/
def execIdleTimerExpiry (p : Link) (s : State) : Host.Outcome State Fault Refusal := .next (idleExpiry p s)

end Sys2Proof.Machine
end

