-- ==== Sys2Proof/Machine/Timers.lean ====
section
/-! DEFINITION. The fine tick (R66, R67): the timers of the ports and the grace timer advance by one, and every tenth
fine tick delivers a coarse tick. -/

namespace Sys2Proof.Machine

/-- A running timer counts one tick; one that has expired waits for its expiry to be taken. -/
def countDown (t : Option Nat) : Option Nat := t.map (· - 1)

/-- The expiries of port `p` that its last fine tick brought about and that have not been taken are taken, before the
next tick (R67). -/
def settlePort (s : State) (p : Link) : State :=
  let pm := s.mgmt.params
  let s := s.modPort p fun x =>
    ((((x.silenceExpiry pm p).rewindExpiry pm p).greetingExpiry pm p).helloExpiry s.mgmt.epoch).holdoffExpiry pm
      s.mgmt.epoch p
  idleExpiry p s

/-- Every expiry of the fine ticks so far is taken. -/
def settleExpiries (s : State) : State := graceExpiry ((indices 4).foldl settlePort s)

/-- The silence timer of an UP port counts one tick, and the count is compared with SILENCE_LIMIT (R148). -/
def Port.countSilence (pm : Params) (x : Port) : Port :=
  if x.state = .up then { x with silence := x.silence + 1, silenceDue := decide (pm.silenceLimit ≤ x.silence + 1) } else x

/-- A port counts one fine tick (R66). -/
def Port.fineTick (pm : Params) (x : Port) : Port :=
  { x with
    greetingTimer := countDown x.greetingTimer
    helloTimer := countDown x.helloTimer
    holdoffTimer := countDown x.holdoffTimer
    idleTimer := countDown x.idleTimer
    rewindTimer := countDown x.rewindTimer }.countSilence pm

/-- The record at a patrol position is left in a condition, if its entry has a record (R178). -/
def disturb (c : Coord) (u : Upset) : Coord :=
  if h : u.position.val < 256 then
    let i : ObjIx := ⟨u.position.val, h⟩
    match (c.obj i).body with
    | .live r _ => c.setObjBody i (.live r u.health)
    | _ => c
  else
    let j : SessIx := ⟨u.position.val - 256, by omega⟩
    match (c.sess j).body with
    | some b => c.setSess j { c.sess j with body := some { b with health := u.health } }
    | none => c

/-- The divider of fine ticks advances, and delivers a coarse tick with every tenth (R66). -/
def Timebase.fineTick (t : Timebase) : Timebase :=
  if t.fine + 1 < Config.finePerCoarse then ⟨0, t.fine + 1, t.coarseDue⟩ else ⟨0, 0, t.coarseDue + 1⟩

/-- The fine tick itself, once the expiries before it have been taken (R66). -/
def advanceTick (s : State) : State :=
  { s with
    ports := tableMap (Port.fineTick s.mgmt.params) s.ports
    mgmt := { s.mgmt with grace := countDown s.mgmt.grace }
    timebase := s.timebase.fineTick }

/-- The grace timer of a pending reset has expired, and its expiry has not been taken. -/
def State.resetDue (s : State) : Bool := s.mgmt.reset.isSome && s.mgmt.grace == some 0

/-- The records are disturbed from outside (R178). -/
def disturbAll (upsets : List Upset) (s : State) : State := s.setCoord (upsets.foldl disturb s.coord)

/-- A fine tick, with the disturbances of records that fell since the last one (R66). Where a reset is performed before
it, the dividers restart there and this tick does not come: the next one is a full period away (R68). -/
def deliverFineTick (upsets : List Upset) (s : State) : State :=
  let t := disturbAll upsets (settleExpiries s)
  if s.resetDue then t else advanceTick t

/-- FINE_TICK (R66). -/
def execFineTick (upsets : List Upset) (s : State) : Host.Outcome State Fault Refusal :=
  .next (deliverFineTick upsets s)

/-- One cycle of REFCLK with nothing commanded: the divider advances, and every 2500th cycle brings a fine tick (R66). -/
def idleCycle (s : State) : State :=
  if s.timebase.refclk + 1 < Config.refclkPerFine then
    { s with timebase := { s.timebase with refclk := s.timebase.refclk + 1 } }
  else deliverFineTick [] s

end Sys2Proof.Machine
end

