-- ==== Sys2Proof/Machine/Waits.lean ====
section
/-! DEFINITION. CANCEL, and time at the engine (chapter 4): the coarse tick with its countdown, the expiry of leases and
deadlines, the passes, and the patrol step that a coarse tick advances (R179). -/

namespace Sys2Proof.Machine

/-! ### CANCEL -/

/-- CANCEL after the renewal (R73). -/
def cancelBody (id : Handle) (j : SessIx) (_ctx : RequestContext) (c : Coord) : ReplyBody × Coord :=
  match c.findWait id with
  | none => (.cancel .notWaiting Handle.zero 0, c)
  | some (w, r) =>
    if id.gen = 0 ∨ r.owner ≠ j then (.cancel .notWaiting Handle.zero 0, c)
    else
      let i := r.object.objIx
      match readObj handler i c with
      | (none, c) => (.cancel .faulted Handle.zero 0, c)
      | (some _, c) =>
        let c := ((c.dequeue i id).modSess j fun s => s.lowerCount r.kind).freeWait w
        let (grants, c) := if r.kind.isLock then grantPass handler none i c else (0, c)
        (.cancel .ok r.object grants, c)

/-- CANCEL: the engine takes port `p`'s CANCEL (R73). -/
def execCancel (p : Link) (s : State) : Host.Outcome State Fault Refusal :=
  engineRequest p (fun r => match r with
    | .cancel id => some (sessionRequest false (cancelBody id))
    | _ => none) s

/-! ### The steps of a coarse tick (R75) -/

/-- Step 1 at session `j`: its remaining lease is lowered by one (R75, R86). -/
def countLease (H : Handler) (j : SessIx) (c : Coord) : Coord :=
  match readSess H j c with
  | (some r, c) => c.setSessRecord j { r with remaining := r.remaining - 1 }
  | (none, c) => c

/-- Step 1 at wait `w`: a present remaining deadline is lowered by one (R74, R75). -/
def countDeadline (w : WaitIx) (c : Coord) : Coord :=
  match (c.wait w).body with
  | some r => c.setWait w { c.wait w with body := some { r with deadline := r.deadline.map (· - 1) } }
  | none => c

/-- The session's remaining lease is 0. -/
def Coord.leaseOut (c : Coord) (j : SessIx) : Bool := (c.sessRecord? j).any fun r => r.remaining == 0

/-- Expiry teardown of session `j`, reported to the management unit with the holds released (R92). -/
def expireSession (H : Handler) (j : SessIx) (c : Coord) : Coord :=
  let h := c.sessHandle j
  let ((released, _, _), c) := endSession H true false j c
  c.report (.sessionExpired h released)

/-- Step 2 at session `j` (R75): a record that proves uncorrectable here is torn down by its fault handling (R77). -/
def expireIfOut (H : Handler) (j : SessIx) (c : Coord) : Coord :=
  if c.leaseOut j then
    match readSess H j c with
    | (some _, c) => expireSession H j c
    | (none, c) => c
  else c

/-- Wait `w` is in use and its remaining deadline is 0. -/
def Coord.deadlineOut (c : Coord) (w : WaitIx) : Bool :=
  (c.wait w).body.any fun r => r.deadline == some 0

/-- End wait `w` by expiry: it leaves its object, its owner's count falls, and TIMED_OUT is queued (R72, R75 step 3). An
object found uncorrectable withdraws the wait instead, and an owner found uncorrectable is torn down (R77). -/
def expireWait (H : Handler) (w : WaitIx) (c : Coord) : Coord :=
  match (c.wait w).body with
  | none => c
  | some r =>
    let i := r.object.objIx
    match readObj H i c with
    | (none, c) => c
    | (some _, c) =>
      match readSess H r.owner c with
      | (none, c) => c
      | (some _, c) =>
        let id := waitHandle w (c.wait w).gen
        let c := (c.dequeue i id).modSess r.owner fun s => s.lowerCount r.kind
        (c.pushWaitNotice .timedOut id r).freeWait w

/-- Step 3 at wait `w` (R75). -/
def expireWaitIfOut (H : Handler) (w : WaitIx) (c : Coord) : Coord := if c.deadlineOut w then expireWait H w c else c

/-- Object `i` is a lock whose holders or queue differ between two moments of a tick, in which both only shrink. -/
def lockLost (before after : Coord) (i : ObjIx) : Bool :=
  match before.lock? i, after.lock? i with
  | some a, some b => a.holders != b.holders || a.queue != b.queue
  | _, _ => false

/-- Object `i` is a counter whose waiter list differs between two moments of a tick, in which it only shrinks. -/
def counterLost (before after : Coord) (i : ObjIx) : Bool :=
  match before.counter? i, after.counter? i with
  | some a, some b => a.waiters != b.waiters
  | _, _ => false

/-- Step 4 (R75): one pass, in ascending object index, on every LIVE object that lost a holder or an entry between `mid`
(the end of step 1) and `late` (the end of step 3), and on every LIVE lock that lost one between `start` and `mid`. -/
def tickPasses (start mid late : Coord) : Coord :=
  scan (indices 256)
    (fun i c => if lockLost start late i || counterLost mid late i then objectPass handler i c else c) late

/-- Step 1 (R75): the countdown of leases, then of deadlines. -/
def tickCountdown (c : Coord) : Coord :=
  scan (indices 128) countDeadline (scan (indices 32) (countLease deferredHandler) c)

/-- Steps 2 and 3 (R75): session expiry, then deadline expiry. -/
def tickExpiries (c : Coord) : Coord :=
  scan (indices 128) (expireWaitIfOut deferredHandler) (scan (indices 32) (expireIfOut deferredHandler) c)

/-- The engine takes a coarse tick, whole (R75). -/
def engineTick (c : Coord) : Coord :=
  let mid := tickCountdown c
  tickPasses c mid (tickExpiries mid)

/-! ### The patrol step (R179) -/

/-- The object entry of a patrol position 0..255, or the session entry of a position 256..287 (R179). -/
def patrolTarget (x : PatrolIx) : Damaged :=
  if h : x.val < 256 then .obj ⟨x.val, h⟩ else .sess ⟨x.val - 256, by omega⟩

/-- The next patrol position, from 287 to 0 (R179). -/
def nextPosition (x : PatrolIx) : PatrolIx := x + 1

/-- One patrol step (R179): the record at the position is read if its entry is not FREE, and for an object if it is LIVE;
a single wrong bit is corrected, and an uncorrectable record is reported to the engine with the header's generation. -/
def patrolStep (s : State) : State :=
  if s.mgmt.params.scrub = 1 then
    let x := s.patrol.position
    let c := s.coord
    let note : List PatrolReport :=
      match patrolTarget x with
      | .obj i =>
        match (c.obj i).body with
        | .live _ .uncorrectable => [⟨x, (c.obj i).gen⟩]
        | _ => []
      | .sess j =>
        match (c.sess j).body with
        | some b => if b.health = .uncorrectable then [⟨x, (c.sess j).gen⟩] else []
        | none => []
    let c :=
      match patrolTarget x with
      | .obj i => (readObj (fun _ c => c) i c).2
      | .sess j => (readSess (fun _ c => c) j c).2
    { s with coord := c, patrol := ⟨nextPosition x, s.patrol.reports ++ note⟩ }
  else s

/-- COARSE_TICK (R66, R75, R179): the engine and the integrity unit take a coarse tick that the timebase has delivered.
Which of the two reads the record memory first is open (R178); `patrolFirst` says it. -/
def execCoarseTick (patrolFirst : Bool) (s : State) : Host.Outcome State Fault Refusal :=
  if s.timebase.coarseDue = 0 then .next s
  else
    let s := { s with timebase := { s.timebase with coarseDue := s.timebase.coarseDue - 1 } }
    let s := if patrolFirst then patrolStep s else s
    let s := s.setCoord (engineTick s.coord)
    .next (if patrolFirst then s else patrolStep s)

/-- LEASE_EXPIRY: session `j`, whose remaining lease is 0, is torn down (R92), and the locks and counters that lost a
holder or an entry are passed. A coarse tick holds this step for every such session (R75), so that a session meets it
here only where its lease stands at 0 outside a tick. -/
def execLeaseExpiry (j : SessIx) (s : State) : Host.Outcome State Fault Refusal :=
  if s.coord.leaseOut j then
    .next (s.setCoord (tickPasses s.coord s.coord (expireIfOut deferredHandler j s.coord)))
  else .next s

/-- DEADLINE_EXPIRY: wait `w`, whose remaining deadline is 0, ends with TIMED_OUT (R74), and the object that lost the
entry is passed. A coarse tick holds this step for every such wait (R75). -/
def execDeadlineExpiry (w : WaitIx) (s : State) : Host.Outcome State Fault Refusal :=
  if s.coord.deadlineOut w then
    .next (s.setCoord (tickPasses s.coord s.coord (expireWaitIfOut deferredHandler w s.coord)))
  else .next s

/-- The engine acts on a patrol report, or drops it (R179). -/
def actOnReport (r : PatrolReport) (c : Coord) : Coord :=
  match patrolTarget r.position with
  | .obj i =>
    match (c.obj i).body with
    | .live _ _ => if (c.obj i).gen = r.gen then handler (.obj i) c else c
    | _ => c
  | .sess j =>
    match (c.sess j).body with
    | some _ => if (c.sess j).gen = r.gen then handler (.sess j) c else c
    | none => c

/-- PATROL_FAULT_REPORT: the engine takes the oldest patrol report (R179). -/
def execPatrolFaultReport (s : State) : Host.Outcome State Fault Refusal :=
  match s.patrol.reports with
  | [] => .next s
  | r :: rest =>
    .next { s with coord := actOnReport r s.coord, patrol := { s.patrol with reports := rest } }

end Sys2Proof.Machine
end

