-- ==== Sys2Proof/Machine/Wire.lean ====
section
/-! DEFINITION. Frames as bytes on a lane (R187, R188): the bytes of a frame the part sends, the check code, and the
command that the bytes received on a lane spell. -/

namespace Sys2Proof.Machine

/-! ### The check code -/

/-- One bit of the check code's register, least significant bit first; the generator 04C11DB7h bit-reversed (R187). -/
def crcBit (c : BitVec 32) : BitVec 32 := if c.getLsbD 0 then (c >>> 1) ^^^ 0xEDB88320#32 else c >>> 1

/-- One byte through the register (R187). -/
def crcByte (c : BitVec 32) (b : Byte) : BitVec 32 :=
  crcBit (crcBit (crcBit (crcBit (crcBit (crcBit (crcBit (crcBit (c ^^^ b.setWidth 32))))))))

/-- The check code over the earlier bytes of a frame: register started at FFFFFFFFh, result complemented (R187). -/
def checkCode (bs : List Byte) : BitVec 32 := ~~~(bs.foldl crcByte 0xFFFFFFFF#32)

/-- The four bytes of a check code, least significant first (R187). -/
def checkBytes (c : BitVec 32) : List Byte :=
  [c.setWidth 8, (c >>> 8).setWidth 8, (c >>> 16).setWidth 8, (c >>> 24).setWidth 8]

/-! ### Sending -/

/-- The two bytes of a 16-bit field, least significant first (R187). -/
def halfBytes (v : BitVec 16) : List Byte := [v.setWidth 8, (v >>> 8).setWidth 8]

/-- The message header (R188). -/
def headerBytes (m : Message) : List Byte :=
  [m.kind, m.code, m.flags, m.bodyLen] ++ halfBytes m.tag ++ putHandle m.session

/-- The frame before its check code, every reserved bit 0 (R187). -/
def frameBody : Frame → List Byte
  | .data num ack limit m => [1, num.setWidth 8, ack.setWidth 8, limit] ++ headerBytes m ++ m.body
  | .idle ack limit => [2, ack.setWidth 8, limit, 0]
  | .rewind ack limit n => [3, ack.setWidth 8, limit, n.setWidth 8]
  | .mark ack limit n => [4, ack.setWidth 8, limit, n.setWidth 8]
  | .hello h =>
    [5 ||| (h.revision.setWidth 8 <<< 4), h.depth.setWidth 8 ||| flagBit 5 h.seen ||| flagBit 6 h.role] ++ halfBytes h.epoch

/-- A frame as it leaves on the lane (R187). -/
def frameBytes (f : Frame) : List Byte := frameBody f ++ checkBytes (checkCode (frameBody f))

/-! ### Receiving -/

/-- A 16-bit field from its two bytes (R187). -/
def halfOf (lo hi : Byte) : BitVec 16 := lo.setWidth 16 ||| (hi.setWidth 16 <<< 8)

/-- The message of a DATA frame, from its header and body bytes (R188). -/
def readMessage : List Byte → Option Message
  | k :: c :: f :: n :: t0 :: t1 :: s0 :: s1 :: body => some ⟨k, c, f, n, halfOf t0 t1, ⟨s0, s1⟩, body⟩
  | _ => none

/-- A frame from the bytes before its check code: the kind names one of the five, the length is that of the kind, and
reserved bits are masked off (R142, R187). -/
def readFrame : List Byte → Option Frame
  | b0 :: b1 :: b2 :: b3 :: rest =>
    match (b0 &&& 0x0F).toNat with
    | 1 =>
      if rest.length ≤ 8 + Config.maxBody then
        (readMessage rest).map fun m => .data (b1.setWidth 7) (b2.setWidth 7) b3 m
      else none
    | 2 => if rest = [] then some (.idle (b1.setWidth 7) b2) else none
    | 3 => if rest = [] then some (.rewind (b1.setWidth 7) b2 (b3.setWidth 7)) else none
    | 4 => if rest = [] then some (.mark (b1.setWidth 7) b2 (b3.setWidth 7)) else none
    | 5 =>
      if rest = [] then
        some (.hello ⟨(b0 >>> 4).setWidth 4, b1.setWidth 5, b1.getLsbD 5, b1.getLsbD 6, halfOf b2 b3⟩)
      else none
    | _ => none
  | _ => none

/-- The frame check (R142): the good frame that the bytes are, or nothing. The last four bytes are the check code. -/
def checkFrame (bs : List Byte) : Option Frame :=
  let body := bs.take (bs.length - 4)
  if bs.drop (bs.length - 4) = checkBytes (checkCode body) then readFrame body else none

/-- The command that the bytes of a frame, received whole on lane `p`, spell (R136, R142). -/
def laneCommand (p : Link) (bs : List Byte) : Instr :=
  match checkFrame bs with
  | some (.data num ack limit m) => .receiveData p num ack limit m
  | some (.idle ack limit) => .receiveIdle p ack limit
  | some (.rewind ack limit n) => .receiveRewind p ack limit n
  | some (.mark ack limit n) => .receiveMark p ack limit n
  | some (.hello h) => .receiveHello p h
  | none => .rejectedFrame p

end Sys2Proof.Machine
end

