-- ==== Sys2Proof/Machine/Dispatch.lean ====
section
/-! DEFINITION. The dispatch of a command to its meaning: one arm for each row of the table. -/

namespace Sys2Proof.Machine

/-- The effect of a command on everything but the queue of waiting commands. -/
def exec (i : Instr) (s : State) : Host.Outcome State Fault Refusal :=
  match i with
  | .openSession p => Sys2Proof.Machine.execOpenSession p s
  | .resume p => Sys2Proof.Machine.execResume p s
  | .renew p => Sys2Proof.Machine.execRenew p s
  | .close p => Sys2Proof.Machine.execClose p s
  | .create p => Sys2Proof.Machine.execCreate p s
  | .find p => Sys2Proof.Machine.execFind p s
  | .delete p => Sys2Proof.Machine.execDelete p s
  | .describe p => Sys2Proof.Machine.execDescribe p s
  | .listObjects p => Sys2Proof.Machine.execListObjects p s
  | .acquire p => Sys2Proof.Machine.execAcquire p s
  | .release p => Sys2Proof.Machine.execRelease p s
  | .cancel p => Sys2Proof.Machine.execCancel p s
  | .countRead p => Sys2Proof.Machine.execCountRead p s
  | .countSet p => Sys2Proof.Machine.execCountSet p s
  | .countAdd p => Sys2Proof.Machine.execCountAdd p s
  | .countSwap p => Sys2Proof.Machine.execCountSwap p s
  | .countRaise p => Sys2Proof.Machine.execCountRaise p s
  | .countLower p => Sys2Proof.Machine.execCountLower p s
  | .await p => Sys2Proof.Machine.execAwait p s
  | .listSessions p => Sys2Proof.Machine.execListSessions p s
  | .identify p => Sys2Proof.Machine.execIdentify p s
  | .paramGet p => Sys2Proof.Machine.execParamGet p s
  | .paramSet p => Sys2Proof.Machine.execParamSet p s
  | .statsGet p => Sys2Proof.Machine.execStatsGet p s
  | .linkControlStart p => Sys2Proof.Machine.execLinkControlStart p s
  | .linkControlStop p => Sys2Proof.Machine.execLinkControlStop p s
  | .deviceReset p => Sys2Proof.Machine.execDeviceReset p s
  | .takeRequest p => Sys2Proof.Machine.execTakeRequest p s
  | .dropNonRequest p => Sys2Proof.Machine.execDropNonRequest p s
  | .slotFreeingReport r => Sys2Proof.Machine.execSlotFreeingReport r s
  | .orphanSessions p => Sys2Proof.Machine.execOrphanSessions p s
  | .discardSlots p => Sys2Proof.Machine.execDiscardSlots p s
  | .revertNotices p => Sys2Proof.Machine.execRevertNotices p s
  | .noticeAckReport p => Sys2Proof.Machine.execNoticeAckReport p s
  | .coarseTick patrolFirst => Sys2Proof.Machine.execCoarseTick patrolFirst s
  | .leaseExpiry j => Sys2Proof.Machine.execLeaseExpiry j s
  | .deadlineExpiry w => Sys2Proof.Machine.execDeadlineExpiry w s
  | .patrolFaultReport => Sys2Proof.Machine.execPatrolFaultReport s
  | .fineTick upsets => Sys2Proof.Machine.execFineTick upsets s
  | .greetingTimerExpiry p => Sys2Proof.Machine.execGreetingTimerExpiry p s
  | .helloTimerExpiry p => Sys2Proof.Machine.execHelloTimerExpiry p s
  | .holdoffTimerExpiry p => Sys2Proof.Machine.execHoldoffTimerExpiry p s
  | .idleTimerExpiry p => Sys2Proof.Machine.execIdleTimerExpiry p s
  | .silenceLimitReached p => Sys2Proof.Machine.execSilenceLimitReached p s
  | .rewindTimerExpiry p => Sys2Proof.Machine.execRewindTimerExpiry p s
  | .graceTimerExpiry => Sys2Proof.Machine.execGraceTimerExpiry s
  | .resetReplyAcked => Sys2Proof.Machine.execResetReplyAcked s
  | .laneReady p => Sys2Proof.Machine.execLaneReady p s
  | .laneLost p => Sys2Proof.Machine.execLaneLost p s
  | .receiveData p num ack limit msg => Sys2Proof.Machine.execReceiveData p num ack limit msg s
  | .receiveIdle p ack limit => Sys2Proof.Machine.execReceiveIdle p ack limit s
  | .receiveRewind p ack limit n => Sys2Proof.Machine.execReceiveRewind p ack limit n s
  | .receiveMark p ack limit n => Sys2Proof.Machine.execReceiveMark p ack limit n s
  | .receiveHello p h => Sys2Proof.Machine.execReceiveHello p h s
  | .rejectedFrame p => Sys2Proof.Machine.execRejectedFrame p s
  | .selectNextFrame p => Sys2Proof.Machine.execSelectNextFrame p s
  | .powerOn => Sys2Proof.Machine.execPowerOn s
  | .resetN => Sys2Proof.Machine.execResetN s
  | .managementReport src => Sys2Proof.Machine.execManagementReport src s

end Sys2Proof.Machine
end

