-- ==== Sys2Proof/Laws/PerInstr.lean ====
section
/-! SUPPORT. One family of statements with a lemma for each command: a command is well formed exactly when every DATA frame
it delivers has a message body of at most 48 bytes. -/

namespace Sys2Proof.Laws.FrameLength

/-- The command is well formed exactly when no DATA frame it delivers is too long (R187). -/
def Statement (i : Instr) : Prop :=
  i.wf = true ↔ ∀ p num ack limit msg, i = .receiveData p num ack limit msg → msg.body.length ≤ 48

theorem openSession (p : Link) : Statement (.openSession p) :=
  ⟨fun _ _ _ _ _ _ e => (nomatch e), fun _ => rfl⟩
theorem resume (p : Link) : Statement (.resume p) :=
  ⟨fun _ _ _ _ _ _ e => (nomatch e), fun _ => rfl⟩
theorem renew (p : Link) : Statement (.renew p) :=
  ⟨fun _ _ _ _ _ _ e => (nomatch e), fun _ => rfl⟩
theorem close (p : Link) : Statement (.close p) :=
  ⟨fun _ _ _ _ _ _ e => (nomatch e), fun _ => rfl⟩
theorem create (p : Link) : Statement (.create p) :=
  ⟨fun _ _ _ _ _ _ e => (nomatch e), fun _ => rfl⟩
theorem find (p : Link) : Statement (.find p) :=
  ⟨fun _ _ _ _ _ _ e => (nomatch e), fun _ => rfl⟩
theorem delete (p : Link) : Statement (.delete p) :=
  ⟨fun _ _ _ _ _ _ e => (nomatch e), fun _ => rfl⟩
theorem describe (p : Link) : Statement (.describe p) :=
  ⟨fun _ _ _ _ _ _ e => (nomatch e), fun _ => rfl⟩
theorem listObjects (p : Link) : Statement (.listObjects p) :=
  ⟨fun _ _ _ _ _ _ e => (nomatch e), fun _ => rfl⟩
theorem acquire (p : Link) : Statement (.acquire p) :=
  ⟨fun _ _ _ _ _ _ e => (nomatch e), fun _ => rfl⟩
theorem release (p : Link) : Statement (.release p) :=
  ⟨fun _ _ _ _ _ _ e => (nomatch e), fun _ => rfl⟩
theorem cancel (p : Link) : Statement (.cancel p) :=
  ⟨fun _ _ _ _ _ _ e => (nomatch e), fun _ => rfl⟩
theorem countRead (p : Link) : Statement (.countRead p) :=
  ⟨fun _ _ _ _ _ _ e => (nomatch e), fun _ => rfl⟩
theorem countSet (p : Link) : Statement (.countSet p) :=
  ⟨fun _ _ _ _ _ _ e => (nomatch e), fun _ => rfl⟩
theorem countAdd (p : Link) : Statement (.countAdd p) :=
  ⟨fun _ _ _ _ _ _ e => (nomatch e), fun _ => rfl⟩
theorem countSwap (p : Link) : Statement (.countSwap p) :=
  ⟨fun _ _ _ _ _ _ e => (nomatch e), fun _ => rfl⟩
theorem countRaise (p : Link) : Statement (.countRaise p) :=
  ⟨fun _ _ _ _ _ _ e => (nomatch e), fun _ => rfl⟩
theorem countLower (p : Link) : Statement (.countLower p) :=
  ⟨fun _ _ _ _ _ _ e => (nomatch e), fun _ => rfl⟩
theorem await (p : Link) : Statement (.await p) :=
  ⟨fun _ _ _ _ _ _ e => (nomatch e), fun _ => rfl⟩
theorem listSessions (p : Link) : Statement (.listSessions p) :=
  ⟨fun _ _ _ _ _ _ e => (nomatch e), fun _ => rfl⟩
theorem identify (p : Link) : Statement (.identify p) :=
  ⟨fun _ _ _ _ _ _ e => (nomatch e), fun _ => rfl⟩
theorem paramGet (p : Link) : Statement (.paramGet p) :=
  ⟨fun _ _ _ _ _ _ e => (nomatch e), fun _ => rfl⟩
theorem paramSet (p : Link) : Statement (.paramSet p) :=
  ⟨fun _ _ _ _ _ _ e => (nomatch e), fun _ => rfl⟩
theorem statsGet (p : Link) : Statement (.statsGet p) :=
  ⟨fun _ _ _ _ _ _ e => (nomatch e), fun _ => rfl⟩
theorem linkControlStart (p : Link) : Statement (.linkControlStart p) :=
  ⟨fun _ _ _ _ _ _ e => (nomatch e), fun _ => rfl⟩
theorem linkControlStop (p : Link) : Statement (.linkControlStop p) :=
  ⟨fun _ _ _ _ _ _ e => (nomatch e), fun _ => rfl⟩
theorem deviceReset (p : Link) : Statement (.deviceReset p) :=
  ⟨fun _ _ _ _ _ _ e => (nomatch e), fun _ => rfl⟩
theorem takeRequest (p : Link) : Statement (.takeRequest p) :=
  ⟨fun _ _ _ _ _ _ e => (nomatch e), fun _ => rfl⟩
theorem dropNonRequest (p : Link) : Statement (.dropNonRequest p) :=
  ⟨fun _ _ _ _ _ _ e => (nomatch e), fun _ => rfl⟩
theorem slotFreeingReport (r : SlotRef) : Statement (.slotFreeingReport r) :=
  ⟨fun _ _ _ _ _ _ e => (nomatch e), fun _ => rfl⟩
theorem orphanSessions (p : Link) : Statement (.orphanSessions p) :=
  ⟨fun _ _ _ _ _ _ e => (nomatch e), fun _ => rfl⟩
theorem discardSlots (p : Link) : Statement (.discardSlots p) :=
  ⟨fun _ _ _ _ _ _ e => (nomatch e), fun _ => rfl⟩
theorem revertNotices (p : Link) : Statement (.revertNotices p) :=
  ⟨fun _ _ _ _ _ _ e => (nomatch e), fun _ => rfl⟩
theorem noticeAckReport (p : Link) : Statement (.noticeAckReport p) :=
  ⟨fun _ _ _ _ _ _ e => (nomatch e), fun _ => rfl⟩
theorem coarseTick (patrolFirst : Bool) : Statement (.coarseTick patrolFirst) :=
  ⟨fun _ _ _ _ _ _ e => (nomatch e), fun _ => rfl⟩
theorem leaseExpiry (j : SessIx) : Statement (.leaseExpiry j) :=
  ⟨fun _ _ _ _ _ _ e => (nomatch e), fun _ => rfl⟩
theorem deadlineExpiry (w : WaitIx) : Statement (.deadlineExpiry w) :=
  ⟨fun _ _ _ _ _ _ e => (nomatch e), fun _ => rfl⟩
theorem patrolFaultReport : Statement (.patrolFaultReport) :=
  ⟨fun _ _ _ _ _ _ e => (nomatch e), fun _ => rfl⟩
theorem fineTick (upsets : List Upset) : Statement (.fineTick upsets) :=
  ⟨fun _ _ _ _ _ _ e => (nomatch e), fun _ => rfl⟩
theorem greetingTimerExpiry (p : Link) : Statement (.greetingTimerExpiry p) :=
  ⟨fun _ _ _ _ _ _ e => (nomatch e), fun _ => rfl⟩
theorem helloTimerExpiry (p : Link) : Statement (.helloTimerExpiry p) :=
  ⟨fun _ _ _ _ _ _ e => (nomatch e), fun _ => rfl⟩
theorem holdoffTimerExpiry (p : Link) : Statement (.holdoffTimerExpiry p) :=
  ⟨fun _ _ _ _ _ _ e => (nomatch e), fun _ => rfl⟩
theorem idleTimerExpiry (p : Link) : Statement (.idleTimerExpiry p) :=
  ⟨fun _ _ _ _ _ _ e => (nomatch e), fun _ => rfl⟩
theorem silenceLimitReached (p : Link) : Statement (.silenceLimitReached p) :=
  ⟨fun _ _ _ _ _ _ e => (nomatch e), fun _ => rfl⟩
theorem rewindTimerExpiry (p : Link) : Statement (.rewindTimerExpiry p) :=
  ⟨fun _ _ _ _ _ _ e => (nomatch e), fun _ => rfl⟩
theorem graceTimerExpiry : Statement (.graceTimerExpiry) :=
  ⟨fun _ _ _ _ _ _ e => (nomatch e), fun _ => rfl⟩
theorem resetReplyAcked : Statement (.resetReplyAcked) :=
  ⟨fun _ _ _ _ _ _ e => (nomatch e), fun _ => rfl⟩
theorem laneReady (p : Link) : Statement (.laneReady p) :=
  ⟨fun _ _ _ _ _ _ e => (nomatch e), fun _ => rfl⟩
theorem laneLost (p : Link) : Statement (.laneLost p) :=
  ⟨fun _ _ _ _ _ _ e => (nomatch e), fun _ => rfl⟩
theorem receiveData (p : Link) (num ack : FrameNum) (limit : Credit) (msg : Message) :
    Statement (.receiveData p num ack limit msg) := by
  constructor
  · intro h p' n' a' l' m' e
    cases e
    exact of_decide_eq_true h
  · intro h
    exact decide_eq_true (h p num ack limit msg rfl)

theorem receiveIdle (p : Link) (ack : FrameNum) (limit : Credit) : Statement (.receiveIdle p ack limit) :=
  ⟨fun _ _ _ _ _ _ e => (nomatch e), fun _ => rfl⟩
theorem receiveRewind (p : Link) (ack : FrameNum) (limit : Credit) (n : FrameNum) :
    Statement (.receiveRewind p ack limit n) :=
  ⟨fun _ _ _ _ _ _ e => (nomatch e), fun _ => rfl⟩
theorem receiveMark (p : Link) (ack : FrameNum) (limit : Credit) (n : FrameNum) :
    Statement (.receiveMark p ack limit n) :=
  ⟨fun _ _ _ _ _ _ e => (nomatch e), fun _ => rfl⟩
theorem receiveHello (p : Link) (h : Hello) : Statement (.receiveHello p h) :=
  ⟨fun _ _ _ _ _ _ e => (nomatch e), fun _ => rfl⟩
theorem rejectedFrame (p : Link) : Statement (.rejectedFrame p) :=
  ⟨fun _ _ _ _ _ _ e => (nomatch e), fun _ => rfl⟩
theorem selectNextFrame (p : Link) : Statement (.selectNextFrame p) :=
  ⟨fun _ _ _ _ _ _ e => (nomatch e), fun _ => rfl⟩
theorem powerOn : Statement (.powerOn) :=
  ⟨fun _ _ _ _ _ _ e => (nomatch e), fun _ => rfl⟩
theorem resetN : Statement (.resetN) :=
  ⟨fun _ _ _ _ _ _ e => (nomatch e), fun _ => rfl⟩
theorem managementReport (src : ReportSource) : Statement (.managementReport src) :=
  ⟨fun _ _ _ _ _ _ e => (nomatch e), fun _ => rfl⟩

end Sys2Proof.Laws.FrameLength
end

