-- ==== Sys2Proof/Safety.lean ====
section
/-! DEFINITION. What counts as a sound state, block by block, and the words in which claims about commands are made: who
is served, what is answered, and what is left as it was. -/

namespace Sys2Proof.Machine

/-! ### Sound tables -/

/-- A lock's mode agrees with its holders, and its capacity is in 1..8 (R17, R18). -/
def LockRecord.Sound (l : LockRecord) : Prop :=
  1 ≤ l.capacity ∧ l.capacity ≤ 8 ∧
    match l.mode with
    | .free => l.holders = []
    | .exclusive => l.holders.length = 1
    | .shared => 1 ≤ l.holders.length ∧ l.holders.length ≤ l.capacity

/-- A counter's value never exceeds its ceiling, which is at least 1 (R45, R46). -/
def CounterRecord.Sound (k : CounterRecord) : Prop := 1 ≤ k.ceiling ∧ k.value ≤ k.ceiling

/-- The kind fields of a record are sound. -/
def ObjKind.Sound : ObjKind → Prop
  | .lock l => l.Sound
  | .counter k => k.Sound

/-- A record's name has 1..16 bytes (R5), and its kind fields are sound. -/
def ObjRecord.Sound (r : ObjRecord) : Prop := 1 ≤ r.name.length ∧ r.name.length ≤ 16 ∧ r.kind.Sound

/-- An object entry has a generation in 1..255 and, if it is LIVE, a sound record (R1, R2). -/
def ObjEntry.Sound (e : ObjEntry) : Prop := e.gen ≠ 0 ∧ ∀ r, e.body.record? = some r → r.Sound

/-- A session's remaining lease is at most its period, which is in 50..60000; its label has at most 12 bytes, and its
next serial is in 1..4 294 967 295 (R82, R86, R105). -/
def SessRecord.Sound (r : SessRecord) : Prop :=
  50 ≤ r.period ∧ r.period ≤ 60000 ∧ r.remaining ≤ r.period ∧ r.label.length ≤ 12 ∧ 1 ≤ r.nextSerial ∧
    r.nextSerial ≤ Config.maxU32

/-- A session entry has a generation in 1..255 and, if it is not FREE, a sound record (R82). -/
def SessEntry.Sound (e : SessEntry) : Prop := e.gen ≠ 0 ∧ ∀ b, e.body = some b → b.record.Sound

/-- A notice queue is a run of SENT notices followed by a run of UNSENT ones, none with serial 0 (R105, R106). -/
def NoticeBox.Sound (b : NoticeBox) : Prop :=
  b.queue.Pairwise (fun older newer => newer.sent = true → older.sent = true) ∧
    ∀ n ∈ b.queue, 1 ≤ n.serial ∧ n.serial ≤ Config.maxU32

/-- The tables of the engine and the notice unit are sound. -/
def Coord.Sound (c : Coord) : Prop :=
  (∀ i, (c.obj i).Sound) ∧ (∀ j, (c.sess j).Sound) ∧ (∀ w, (c.wait w).gen ≠ 0) ∧ ∀ j, (c.box j).Sound

/-! ### A sound management unit -/

/-- Every parameter is in its range (R168). -/
def Params.Sound (pm : Params) : Prop :=
  pm.mgmtLink ≤ 3 ∧ (50 ≤ pm.defaultLease ∧ pm.defaultLease ≤ 60000) ∧ (2 ≤ pm.rewindPeriod ∧ pm.rewindPeriod ≤ 255) ∧
    (1 ≤ pm.rewindLimit ∧ pm.rewindLimit ≤ 15) ∧ (10 ≤ pm.silenceLimit ∧ pm.silenceLimit ≤ 2550) ∧
    (1 ≤ pm.restartHoldoff ∧ pm.restartHoldoff ≤ 1000) ∧ pm.autoRestart ≤ 15 ∧ pm.scrub ≤ 1 ∧ pm.alertMask ≤ 63

/-- Parameters in range, an epoch in 1..65535, at most 8 alerts, no counter beyond 32 bits, and a grace timer running
exactly while a reset is pending (R168, R171, R174, R183). -/
def Mgmt.Sound (m : Mgmt) : Prop :=
  m.params.Sound ∧ m.epoch ≠ 0 ∧ m.alerts.length ≤ Config.alertDepth ∧
    (∀ l : Link, ∀ n ∈ m.linkStats[l].counters, n ≤ Config.maxU32) ∧
    (∀ n ∈ m.deviceStats.counters, n ≤ Config.maxU32) ∧ m.reset.isSome = m.grace.isSome

/-! ### Sound ports and dispatchers -/

/-- The frames of the replay buffer have consecutive numbers, the last just behind the next frame number (R145). -/
def Port.numbered (x : Port) : Prop :=
  ∀ n, ∀ h : n < x.replay.length, x.replay[n].num = x.nextNum - BitVec.ofNat 7 (x.replay.length - n)

/-- The replay position names a frame of the replay buffer (R162). -/
def Port.positioned (x : Port) : Prop := ∀ pos, x.replayPos = some pos → (pos - x.oldest).toNat < x.replay.length

/-- The receiver half's recovery state is consistent: a timer and attempts 1..15 while DISCARDING, nothing while
ACCEPTING (R154, R156, R157). -/
def Port.recovering (x : Port) : Prop :=
  (x.discarding = true → x.rewindTimer.isSome ∧ 1 ≤ x.attempts ∧ x.attempts ≤ 15) ∧
    (x.discarding = false → x.rewindTimer = none ∧ x.attempts = 0 ∧ x.rewindDue = false)

/-- A port that is not UP has empty buffers, no recovery state and nothing heard (R137, R145, R154). -/
def Port.quiet (x : Port) : Prop :=
  x.rxBuffer = [] ∧ x.replay = [] ∧ x.discarding = false ∧ x.replayPos = none ∧ x.markDue = none ∧
    x.partnerHeard = false ∧ x.silenceDue = false

/-- A port that is UP knows its partner's depth and holds no more credit than it, and has the seen flag set (R140, R146).
That no failure report of an earlier period is outstanding is the model's choice (log entry 6). -/
def Port.running (x : Port) : Prop :=
  (∃ d, x.partnerDepth = some d ∧ 1 ≤ d ∧ d ≤ 16 ∧ x.credit ≤ d) ∧ x.seen = true ∧ x.failDispatcher = false ∧
    x.failEngine = false ∧ x.failNotices = false

/-- The greeting and HELLO timers run in GREETING alone, and the holdoff timer in FAILED alone (R139, R152). -/
def Port.timed (x : Port) : Prop :=
  (x.state ≠ .greeting → x.greetingTimer = none ∧ x.helloTimer = none) ∧ (x.state ≠ .failed → x.holdoffTimer = none)

/-- A port's state is sound: at most 16 messages received and 24 frames unacknowledged (R143, R145), and every part of it
as above. -/
def Port.Sound (x : Port) : Prop :=
  x.rxBuffer.length ≤ Config.receiveDepth ∧ x.replay.length ≤ Config.replayDepth ∧ x.numbered ∧ x.positioned ∧
    x.recovering ∧ x.timed ∧ (x.state ≠ .up → x.quiet) ∧ (x.state = .up → x.running)

/-- The reply queue holds each occupied slot once, and no other (R120). -/
def Dispatcher.Sound (d : Dispatcher) : Prop := d.queue.Nodup ∧ ∀ k, (d.slot k).body ≠ .free ↔ k ∈ d.queue

/-- A dispatcher whose port is not UP, and has no failure report outstanding for it, holds nothing (R132). -/
def idlePath (x : Port) (d : Dispatcher) : Prop := x.state ≠ .up → x.failDispatcher = false → d.queue = []

/-- The whole part is in a sound state. -/
def State.Sound (s : State) : Prop :=
  s.coord.Sound ∧ s.mgmt.Sound ∧ ∀ p, (s.port p).Sound ∧ (s.disp p).Sound ∧ idlePath (s.port p) (s.disp p)

/-! ### Serving a request -/

/-- Port `p` presents requests: it is UP, or its dispatcher has yet to take the report that it is not, and no reset is
pending (R127, R133, R134). -/
def presenting (s : State) (p : Link) : Prop :=
  ((s.port p).state = .up ∨ (s.port p).failDispatcher = true) ∧ s.mgmt.reset = none

/-- Slot `k` holds the oldest PENDING request of port `p`'s reply queue, and it is one for the unit (R127). -/
def oldestPending (s : State) (p : Link) (k : SlotIx) (hdr : RequestHeader) (req : Request) (unit : Route) : Prop :=
  ((s.disp p).slot k).body = .pending hdr req unit ∧
    ∃ before after, (s.disp p).queue = before ++ k :: after ∧
      ∀ n, n ∈ before → ∀ h q u, ((s.disp p).slot n).body ≠ .pending h q u

/-- The last served port of a unit's arbiter (R128, R129). -/
def lastServedBy (unit : Route) (s : State) : Link :=
  match unit with
  | .engine => s.engineLast
  | .management => s.mgmt.lastServed

/-- Port `p` stands before port `q` in the cyclic order that begins after the port `last` (R128). -/
def servedBefore (last p q : Link) : Prop := (p - last - 1).val < (q - last - 1).val

/-- The engine takes the request `r` of port `p` next (R128). -/
def engineTakes (s : State) (p : Link) (r : Presented) : Prop := offer? .engine s.engineLast s = some r ∧ r.link = p

/-- The management unit takes the request `r` of port `p` next, and the management-link check passes (R129). -/
def mgmtTakes (s : State) (p : Link) (r : Presented) : Prop :=
  offer? .management s.mgmt.lastServed s = some r ∧ r.link = p ∧
    (r.request.needsMgmtLink = true → p.val = s.mgmt.params.mgmtLink)

/-- The request's session is `j`, which passes the session check with a sound record `x` (R84, R178). -/
def sessionServed (s : State) (r : Presented) (j : SessIx) (x : SessRecord) : Prop :=
  sessionCheck (r.request == .resume) r.header.session r.link s.coord = .ok j ∧
    ∃ b, (s.coord.sess j).body = some b ∧ b.record = x ∧ b.health = .clean

/-- The session's lease is renewed (R85). -/
def SessRecord.renewed (x : SessRecord) : SessRecord := { x with remaining := x.period }

/-- The reply stands FINISHED in the request's slot, with the header fields of the request (R127, R130). -/
def answered (r : Presented) (body : ReplyBody) (t : State) : Prop :=
  ((t.disp r.link).slot r.slot).body = .finished ⟨r.header.code, r.header.tag, r.header.session, body⟩

/-- The dispatchers are as they were, but for the contents of the request's slot. -/
def dispatchersKept (r : Presented) (s t : State) : Prop :=
  (∀ q, q ≠ r.link → t.disp q = s.disp q) ∧
    (t.disp r.link).queue = (s.disp r.link).queue ∧ (t.disp r.link).freed = (s.disp r.link).freed ∧
    (t.disp r.link).out = (s.disp r.link).out ∧
    (∀ k, k ≠ r.slot → (t.disp r.link).slot k = (s.disp r.link).slot k) ∧
    ((t.disp r.link).slot r.slot).occupancy = ((s.disp r.link).slot r.slot).occupancy

/-- What an engine request leaves alone: the ports, the management unit, time, the patrol, the waiting commands, and the
dispatchers but for its slot. -/
def engineFrame (r : Presented) (s t : State) : Prop :=
  t.ports = s.ports ∧ t.mgmt = s.mgmt ∧ t.timebase = s.timebase ∧ t.patrol = s.patrol ∧ t.pending = s.pending ∧
    t.engineLast = r.link ∧ dispatchersKept r s t

/-- What a management request leaves alone but for its own effect: the engine's tables and its arbiter, time, the
patrol, the waiting commands, and the dispatchers but for its slot. -/
def mgmtFrame (r : Presented) (s t : State) : Prop :=
  t.coord = s.coord ∧ t.engineLast = s.engineLast ∧ t.timebase = s.timebase ∧ t.patrol = s.patrol ∧
    t.pending = s.pending ∧ dispatchersKept r s t

/-- Every object entry but `i` is as it was. -/
def objectsKeptBut (i : ObjIx) (s t : State) : Prop := ∀ k, k ≠ i → t.coord.obj k = s.coord.obj k

/-- Every session entry but `j` is as it was. -/
def sessionsKeptBut (j : SessIx) (s t : State) : Prop := ∀ k, k ≠ j → t.coord.sess k = s.coord.sess k

/-- Session `j` has the record `x`, and is otherwise as it was. -/
def sessionNow (j : SessIx) (x : SessRecord) (s t : State) : Prop :=
  t.coord.sess j = ⟨(s.coord.sess j).gen, (s.coord.sess j).body.map fun b => { b with record := x, health := .clean }⟩

/-- The notices, and the reports of the engine and of the integrity unit, are as they were. -/
def noticesKept (s t : State) : Prop :=
  t.coord.boxes = s.coord.boxes ∧ t.coord.engineOut = s.coord.engineOut ∧ t.coord.integrityOut = s.coord.integrityOut

/-- Of the tables, only session `j`'s record has changed, to `x`. -/
def onlySession (j : SessIx) (x : SessRecord) (s t : State) : Prop :=
  sessionNow j x s t ∧ sessionsKeptBut j s t ∧ t.coord.objects = s.coord.objects ∧ t.coord.waits = s.coord.waits ∧
    noticesKept s t

/-- Of the tables, only session `j`'s record, to `x`, and object entry `i`'s body, to `b`, have changed. -/
def onlyObject (i : ObjIx) (b : ObjBody) (j : SessIx) (x : SessRecord) (s t : State) : Prop :=
  t.coord.obj i = ⟨(s.coord.obj i).gen, b⟩ ∧ objectsKeptBut i s t ∧ sessionNow j x s t ∧ sessionsKeptBut j s t ∧
    t.coord.waits = s.coord.waits ∧ noticesKept s t

/-- Every lease and every deadline has at least two coarse ticks left, but for those of session `j` and wait `w` where
one is named. -/
def noneRunsOut (s : State) (j : Option SessIx) (w : Option WaitIx) : Prop :=
  (∀ n b, some n ≠ j → (s.coord.sess n).body = some b → 2 ≤ b.record.remaining) ∧
    ∀ v y d, some v ≠ w → (s.coord.wait v).body = some y → y.deadline = some d → 2 ≤ d

/-- Session `n`'s remaining lease has been lowered by one, and it is otherwise as it was (R75). -/
def leaseCounted (n : SessIx) (s t : State) : Prop :=
  t.coord.sess n = ⟨(s.coord.sess n).gen, (s.coord.sess n).body.map fun b =>
    { b with record := { b.record with remaining := b.record.remaining - 1 } }⟩

/-- Wait `v`'s deadline, if it has one, has been lowered by one, and it is otherwise as it was (R75). -/
def deadlineCounted (v : WaitIx) (s t : State) : Prop :=
  t.coord.wait v = ⟨(s.coord.wait v).gen, (s.coord.wait v).body.map fun y =>
    { y with deadline := y.deadline.map (· - 1) }⟩

/-- What a coarse tick leaves alone beside the tables: one tick fewer is due, the patrol has moved on if SCRUB is set,
and nothing else has changed (R66, R75, R179). -/
def tickFrame (s t : State) : Prop :=
  t.ports = s.ports ∧ t.disps = s.disps ∧ t.mgmt = s.mgmt ∧ t.engineLast = s.engineLast ∧ t.pending = s.pending ∧
    t.timebase = { s.timebase with coarseDue := s.timebase.coarseDue - 1 } ∧
    t.patrol = if s.mgmt.params.scrub = 1 then { s.patrol with position := s.patrol.position + 1 } else s.patrol

/-- What the taking of a patrol report leaves alone beside the tables: the report is gone, and nothing else has changed
(R179). -/
def reportFrame (rest : List PatrolReport) (s t : State) : Prop :=
  t.ports = s.ports ∧ t.disps = s.disps ∧ t.mgmt = s.mgmt ∧ t.engineLast = s.engineLast ∧ t.timebase = s.timebase ∧
    t.pending = s.pending ∧ t.patrol = { s.patrol with reports := rest }

/-- The handle names the LIVE object whose record is `o`, without error (R4, R178). -/
def namesObject (s : State) (h : Handle) (o : ObjRecord) : Prop :=
  h.gen ≠ 0 ∧ (s.coord.obj h.objIx) = ⟨h.gen, .live o .clean⟩

/-- No LIVE object record has a wrong bit (R178). -/
def objectsClean (s : State) : Prop := ∀ i o h, (s.coord.obj i).body = .live o h → h = .clean

/-- No session record has a wrong bit (R178). -/
def sessionsClean (s : State) : Prop := ∀ j b, (s.coord.sess j).body = some b → b.health = .clean

/-- Session `j` has no wait on the object named by `h` (R23, R55). -/
def notWaitingOn (s : State) (j : SessIx) (h : Handle) : Prop :=
  ∀ w y, (s.coord.wait w).body = some y → y.owner = j → y.object ≠ h

/-- Session `j` has no wait. -/
def ownsNoWait (s : State) (j : SessIx) : Prop := ∀ w y, (s.coord.wait w).body = some y → y.owner ≠ j

/-- Wait record `w` is the lowest-numbered free one (R70). -/
def lowestFreeWait (s : State) (w : WaitIx) : Prop :=
  (s.coord.wait w).body = none ∧ ∀ v, v < w → (s.coord.wait v).body ≠ none

/-- Every wait record but `w` is as it was. -/
def waitsKeptBut (w : WaitIx) (s t : State) : Prop := ∀ k, k ≠ w → t.coord.wait k = s.coord.wait k

/-- The notices of every session but `j` are as they were. -/
def boxesKeptBut (j : SessIx) (s t : State) : Prop := ∀ k, k ≠ j → t.coord.box k = s.coord.box k

/-- The reports of the engine and of the integrity unit are as they were. -/
def reportsKept (s t : State) : Prop :=
  t.coord.engineOut = s.coord.engineOut ∧ t.coord.integrityOut = s.coord.integrityOut

/-- The slot reference of a request: its port, slot and occupancy number (R71). -/
def slotRefOf (s : State) (r : Presented) : SlotRef := ⟨r.link, r.slot, ((s.disp r.link).slot r.slot).occupancy⟩

/-- A counter request on counter `k`, named `name`, at handle `h`, has been answered OK with the new value `v`, no waiter
released, and the value stored (R48). -/
def countDone (r : Presented) (h : Handle) (name : List Byte) (k : CounterRecord) (v : Nat) (j : SessIx)
    (x : SessRecord) (s t : State) : Prop :=
  engineFrame r s t ∧ answered r (.count .ok k.value v (decide (v ≠ k.value)) 0) t ∧
    onlyObject h.objIx (.live ⟨name, .counter { k with value := v }⟩ .clean) j x.renewed s t

/-- A counter request has been refused with RANGE, and only the lease renewed (R48). -/
def countOutOfRange (r : Presented) (k : CounterRecord) (j : SessIx) (x : SessRecord) (s t : State) : Prop :=
  engineFrame r s t ∧ answered r (.count .range k.value k.value false 0) t ∧ onlySession j x.renewed s t

/-- Every port but `p` is as it was. -/
def portsKeptBut (p : Link) (s t : State) : Prop := ∀ q, q ≠ p → t.port q = s.port q

/-- What an event of port `p` alone leaves as it was: everything but that port. -/
def portFrame (p : Link) (s t : State) : Prop :=
  portsKeptBut p s t ∧ t.coord = s.coord ∧ t.disps = s.disps ∧ t.mgmt = s.mgmt ∧ t.engineLast = s.engineLast ∧
    t.timebase = s.timebase ∧ t.patrol = s.patrol ∧ t.pending = s.pending

/-- The session and serial number of each notice that the frames carried, in frame order (R144). -/
def noticesOf (frames : List ReplayEntry) : List (Handle × Nat) :=
  frames.filterMap fun e =>
    match e.load with
    | .notice h serial => some (h, serial)
    | _ => none

/-- One of the frames carried the reply to DEVICE_RESET with status OK (R144). -/
def okResetReplyIn (frames : List ReplayEntry) : Bool :=
  frames.any fun e => e.load == .reply 26 && e.msg.body.head? == some 0

/-- What an event of the engine alone leaves as it was: everything but the tables. -/
def tablesFrame (s t : State) : Prop :=
  t.ports = s.ports ∧ t.disps = s.disps ∧ t.mgmt = s.mgmt ∧ t.engineLast = s.engineLast ∧ t.timebase = s.timebase ∧
    t.patrol = s.patrol ∧ t.pending = s.pending

/-- The fields of a CREATE pass its checks (R6): a lock with no counter field, or a counter with no lock field, a name of
1..16 bytes, and every field in its range. -/
def createAllowed (kind : Byte) (name : List Byte) (rank cap : Option Byte) (ceil init : Option Nat) : Prop :=
  1 ≤ name.length ∧ name.length ≤ 16 ∧
    (kind = 1 ∧ ceil = none ∧ init = none ∧ (∀ n, cap = some n → 1 ≤ n.toNat ∧ n.toNat ≤ 8) ∨
      kind = 2 ∧ rank = none ∧ cap = none ∧ 1 ≤ ceil.getD Config.maxU32 ∧ init.getD 0 ≤ ceil.getD Config.maxU32)

/-! ### What waits to be sent -/

/-- A FINISHED reply stands at the head of port `p`'s reply queue, in slot `k` (R131). -/
def replyReady (s : State) (p : Link) (k : SlotIx) (reply : Reply) : Prop :=
  (∃ rest, (s.disp p).queue = k :: rest) ∧ ((s.disp p).slot k).body = .finished reply

/-- Notice `n` of session index `j` is eligible for the sender of link `p` (R110): the unit holds the session OPEN on the
link at generation `g`, and `n` is the oldest UNSENT notice of its queue and not held. -/
def noticeReady (s : State) (p : Link) (j : SessIx) (g : Byte) (n : Notice) : Prop :=
  (s.coord.box j).view = some ⟨false, g, p⟩ ∧ n.sent = false ∧ n.held = none ∧
    ∃ before after, (s.coord.box j).queue = before ++ n :: after ∧ ∀ m, m ∈ before → m.sent = true

/-- No reply, no alert and no notice waits for the sender of link `p` (R110, R131, R174). -/
def nothingReady (s : State) (p : Link) : Prop :=
  (∀ k reply, ¬ replyReady s p k reply) ∧ (s.mgmt.params.mgmtLink = p.val → s.mgmt.alerts = []) ∧
    ∀ j g n, ¬ noticeReady s p j g n

end Sys2Proof.Machine
end

