-- ==== Sys2Proof/Certificates/Slice0/Obligations.lean ====
section
/-! DEFINITION. The statements about the model, each formalising rules of the spec. A command's completion statement
says, under conditions on the state and the operands alone, that `exec` answers a next state and what that state holds;
what is left as it was is said by the frame predicates of Safety. -/

section
open Sys2Proof Sys2Proof.Machine

/-! ### The engine's requests: sessions -/

/-- R88, R89: OPEN opens the lowest-numbered FREE session entry on its arrival link, and changes nothing else. -/
def Obligations.OpenOpensLowestFreeEntry : Prop :=
  ∀ (s : State) (p : Link) (r : Presented) (lease : Option Nat) (ordered : Option Bool) (label : Option (List Byte))
    (j : SessIx),
    engineTakes s p r → r.request = .openSession lease ordered label →
    (∀ l, lease = some l → 50 ≤ l ∧ l ≤ 60000) → (∀ l, label = some l → l.length ≤ 12) →
    (s.coord.sess j).body = none → (∀ k, k < j → (s.coord.sess k).body ≠ none) →
    ∃ t, exec (.openSession p) s = .next t ∧ engineFrame r s t ∧
      answered r (.openSession .ok (s.coord.sessHandle j) (lease.getD s.mgmt.params.defaultLease) s.mgmt.epoch) t ∧
      t.coord.sess j = ⟨(s.coord.sess j).gen, some ⟨false, p,
        { period := lease.getD s.mgmt.params.defaultLease, remaining := lease.getD s.mgmt.params.defaultLease,
          ordered := ordered.getD false, label := label.getD [], holds := [], lockWaits := 0, counterWaits := 0,
          nextSerial := 1 }, .clean⟩⟩ ∧
      t.coord.box j = ⟨some ⟨false, (s.coord.sess j).gen, p⟩, []⟩ ∧
      sessionsKeptBut j s t ∧ boxesKeptBut j s t ∧ t.coord.objects = s.coord.objects ∧
      t.coord.waits = s.coord.waits ∧ reportsKept s t

/-- R96, R97: RESUME binds an ORPHANED session to its arrival link, renews its lease and reports its holdings. -/
def Obligations.ResumeRebindsOrphan : Prop :=
  ∀ (s : State) (p : Link) (r : Presented) (j : SessIx) (b : SessCurrent),
    engineTakes s p r → r.request = .resume → r.header.session = s.coord.sessHandle j →
    (s.coord.sess j).body = some b → b.orphaned = true → b.health = .clean →
    ∃ t, exec (.resume p) s = .next t ∧ engineFrame r s t ∧
      answered r (.resume .ok b.record.period b.record.holds.length b.record.lockWaits b.record.counterWaits
        (s.coord.box j).queue.length (((s.coord.box j).queue.head?.map (·.serial)).getD 0)) t ∧
      t.coord.sess j = ⟨(s.coord.sess j).gen, some ⟨false, p, b.record.renewed, .clean⟩⟩ ∧
      t.coord.box j = ⟨some ⟨false, (s.coord.sess j).gen, p⟩, (s.coord.box j).queue⟩ ∧
      sessionsKeptBut j s t ∧ boxesKeptBut j s t ∧ t.coord.objects = s.coord.objects ∧
      t.coord.waits = s.coord.waits ∧ reportsKept s t

/-- R87: RENEW renews the lease of its session and has no other effect; the reply carries the lease period. -/
def Obligations.RenewRenewsLease : Prop :=
  ∀ (s : State) (p : Link) (r : Presented) (j : SessIx) (x : SessRecord),
    engineTakes s p r → r.request = .renew → sessionServed s r j x →
    ∃ t, exec (.renew p) s = .next t ∧ engineFrame r s t ∧ answered r (.renew .ok x.period) t ∧
      onlySession j x.renewed s t

/-- R38, R90: CLOSE of a session with no waits frees its entry, advances the generation and discards its notices; with
one hold on a lock that nobody else holds or waits for, the lock is left FREE, without the abandoned flag being set. -/
def Obligations.CloseEndsSession : Prop :=
  (∀ (s : State) (p : Link) (r : Presented) (j : SessIx) (x : SessRecord),
     engineTakes s p r → r.request = .close → sessionServed s r j x → x.holds = [] → ownsNoWait s j →
     ∃ t, exec (.close p) s = .next t ∧ engineFrame r s t ∧
       answered r (.close .ok 0 0 (s.coord.box j).queue.length) t ∧
       t.coord.sess j = ⟨advanceGen (s.coord.sess j).gen, none⟩ ∧ t.coord.box j = ⟨none, []⟩ ∧
       sessionsKeptBut j s t ∧ boxesKeptBut j s t ∧ t.coord.objects = s.coord.objects ∧
       t.coord.waits = s.coord.waits ∧ reportsKept s t) ∧
  (∀ (s : State) (p : Link) (r : Presented) (j : SessIx) (x : SessRecord) (h : Handle) (name : List Byte)
     (l : LockRecord),
     engineTakes s p r → r.request = .close → sessionServed s r j x → x.holds = [h] → ownsNoWait s j →
     namesObject s h ⟨name, .lock l⟩ → l.holders = [j] → l.queue = [] →
     ∃ t, exec (.close p) s = .next t ∧ engineFrame r s t ∧
       answered r (.close .ok 1 0 (s.coord.box j).queue.length) t ∧
       t.coord.obj h.objIx = ⟨h.gen, .live ⟨name, .lock { l with holders := [], mode := .free }⟩ .clean⟩ ∧
       t.coord.sess j = ⟨advanceGen (s.coord.sess j).gen, none⟩ ∧ t.coord.box j = ⟨none, []⟩ ∧
       objectsKeptBut h.objIx s t ∧ sessionsKeptBut j s t ∧ boxesKeptBut j s t ∧
       t.coord.waits = s.coord.waits ∧ reportsKept s t)

/-- R100, R101: with every session record sound, LIST_SESSIONS reports the first six entries that are not FREE from its
start index, or the first one with its label, and the index of the entry that follows them. -/
def Obligations.ListSessionsReportsCurrentEntries : Prop :=
  ∀ (s : State) (p : Link) (r : Presented) (j : SessIx) (x : SessRecord) (start : Byte) (want : Option Bool),
    engineTakes s p r → r.request = .listSessions start want → sessionServed s r j x → sessionsClean s →
    let c := s.coord.setSessRecord j x.renewed
    let found := (indices 32).filter fun k => decide (start.toNat ≤ sessionNumber k) && (c.sess k).body.isSome
    let limit := if want.getD false then 1 else 6
    ∃ t, exec (.listSessions p) s = .next t ∧ engineFrame r s t ∧ onlySession j x.renewed s t ∧
      answered r (.listSessions .ok
        ((found.take limit).filterMap fun k => (c.sess k).body.map fun b =>
          ⟨c.sessHandle k, b.orphaned, b.bound, b.record.holds.length, b.record.lockWaits + b.record.counterWaits,
            b.record.label.length⟩)
        ((found[limit]?.map sessionNumber).getD 0)
        (if want.getD false then
          (found.take limit).flatMap fun k => ((c.sessRecord? k).map (·.label)).getD [] else [])) t

/-! ### The engine's requests: objects -/

/-- R6, R7, R8, R188: CREATE under a name no LIVE object has takes the lowest-numbered FREE entry, at the generation
its header holds. A lock takes rank 0 and capacity 8, a counter ceiling 4 294 967 295 and value 0, for the fields that
are absent. With no FREE entry the reply is NO_ROOM. Under the name of a LIVE object nothing is created, and the reply
carries that object's handle and kind: EXISTS without open-if-exists, and with it OK for the same kind and WRONG_KIND
for the other. A CREATE whose fields fail a check is refused and only renews the lease: MALFORMED for an optional field
of the other kind, and RANGE for a kind that is neither, or, with no such field, for a name or another field out of
range. A reply of NO_ROOM, RANGE or MALFORMED carries the handle 0000h and the kind NONE (R188); that its existed flag
is clear is an inference of the model (log entry 24). -/
def Obligations.CreateMakesLockOrCounter : Prop :=
  (∀ (s : State) (p : Link) (r : Presented) (j : SessIx) (x : SessRecord) (name : List Byte) (oie : Bool)
     (rank cap : Option Byte) (i : ObjIx),
     engineTakes s p r → r.request = .create 1 name oie rank cap none none → sessionServed s r j x → objectsClean s →
     1 ≤ name.length → name.length ≤ 16 → (∀ n, cap = some n → 1 ≤ n.toNat ∧ n.toNat ≤ 8) →
     (∀ k o, s.coord.record? k = some o → o.name ≠ name) →
     (s.coord.obj i).body = .free → (∀ k, k < i → (s.coord.obj k).body ≠ .free) →
     ∃ t, exec (.create p) s = .next t ∧ engineFrame r s t ∧
       answered r (.create .ok (s.coord.objHandle i) .lock false) t ∧
       onlyObject i (.live ⟨name, .lock ⟨rank.getD 0, (cap.map (·.toNat)).getD 8, .free, [], [], false⟩⟩ .clean) j
         x.renewed s t) ∧
  (∀ (s : State) (p : Link) (r : Presented) (j : SessIx) (x : SessRecord) (name : List Byte) (oie : Bool)
     (ceil init : Option Nat) (i : ObjIx),
     engineTakes s p r → r.request = .create 2 name oie none none ceil init → sessionServed s r j x → objectsClean s →
     1 ≤ name.length → name.length ≤ 16 → 1 ≤ ceil.getD Config.maxU32 → init.getD 0 ≤ ceil.getD Config.maxU32 →
     (∀ k o, s.coord.record? k = some o → o.name ≠ name) →
     (s.coord.obj i).body = .free → (∀ k, k < i → (s.coord.obj k).body ≠ .free) →
     ∃ t, exec (.create p) s = .next t ∧ engineFrame r s t ∧
       answered r (.create .ok (s.coord.objHandle i) .counter false) t ∧
       onlyObject i (.live ⟨name, .counter ⟨ceil.getD Config.maxU32, init.getD 0, []⟩⟩ .clean) j x.renewed s t) ∧
  (∀ (s : State) (p : Link) (r : Presented) (j : SessIx) (x : SessRecord) (kind : Byte) (name : List Byte) (oie : Bool)
     (rank cap : Option Byte) (ceil init : Option Nat),
     engineTakes s p r → r.request = .create kind name oie rank cap ceil init → sessionServed s r j x →
     objectsClean s → createAllowed kind name rank cap ceil init →
     ((∀ k o, s.coord.record? k = some o → o.name ≠ name) → (∀ k, (s.coord.obj k).body ≠ .free) →
       ∃ t, exec (.create p) s = .next t ∧ engineFrame r s t ∧ answered r (.create .noRoom Handle.zero .none false) t ∧
         onlySession j x.renewed s t) ∧
     ∀ i o, s.coord.record? i = some o → o.name = name →
       (∀ k u, k < i → s.coord.record? k = some u → u.name ≠ name) →
       ∃ t, exec (.create p) s = .next t ∧ engineFrame r s t ∧ onlySession j x.renewed s t ∧
         answered r (.create
           (if oie = false then .exists else if kind = (if o.kind.field = .lock then 1 else 2) then .ok else .wrongKind)
           (s.coord.objHandle i) o.kind.field true) t) ∧
  (∀ (s : State) (p : Link) (r : Presented) (j : SessIx) (x : SessRecord) (kind : Byte) (name : List Byte) (oie : Bool)
     (rank cap : Option Byte) (ceil init : Option Nat),
     engineTakes s p r → r.request = .create kind name oie rank cap ceil init → sessionServed s r j x →
     ¬ createAllowed kind name rank cap ceil init →
     ∃ t, exec (.create p) s = .next t ∧ engineFrame r s t ∧ onlySession j x.renewed s t ∧
       answered r (.create
         (if kind = 1 ∧ (ceil ≠ none ∨ init ≠ none) ∨ kind = 2 ∧ (rank ≠ none ∨ cap ≠ none) then .malformed else .range)
         Handle.zero .none false) t)

/-- R5, R9: with every object record sound, FIND answers the handle and the kind of the LIVE object of that name, or
NO_OBJECT where there is none, and changes nothing but the lease. -/
def Obligations.FindLooksNameUp : Prop :=
  (∀ (s : State) (p : Link) (r : Presented) (j : SessIx) (x : SessRecord) (name : List Byte) (i : ObjIx)
     (o : ObjRecord),
     engineTakes s p r → r.request = .find name → sessionServed s r j x → objectsClean s →
     1 ≤ name.length → name.length ≤ 16 → s.coord.record? i = some o → o.name = name →
     (∀ k u, k < i → s.coord.record? k = some u → u.name ≠ name) →
     ∃ t, exec (.find p) s = .next t ∧ engineFrame r s t ∧
       answered r (.find .ok (s.coord.objHandle i) o.kind.field) t ∧ onlySession j x.renewed s t) ∧
  (∀ (s : State) (p : Link) (r : Presented) (j : SessIx) (x : SessRecord) (name : List Byte),
     engineTakes s p r → r.request = .find name → sessionServed s r j x → objectsClean s →
     1 ≤ name.length → name.length ≤ 16 → (∀ k u, s.coord.record? k = some u → u.name ≠ name) →
     ∃ t, exec (.find p) s = .next t ∧ engineFrame r s t ∧ answered r (.find .noObject Handle.zero .none) t ∧
       onlySession j x.renewed s t)

/-- R10: DELETE without force frees an object that has no holder and no waiter, and its generation advances; a FAULTED
entry is freed likewise, and its leaving that state is reported. -/
def Obligations.DeleteFreesIdleEntry : Prop :=
  ∀ (s : State) (p : Link) (r : Presented) (j : SessIx) (x : SessRecord) (h : Handle) (force : Bool),
    engineTakes s p r → r.request = .delete h force → sessionServed s r j x → h.gen ≠ 0 →
    (s.coord.obj h.objIx).gen = h.gen →
    (∀ o, (s.coord.obj h.objIx).body = .live o .clean → force = false → o.kind.inUse = false →
      ∃ t, exec (.delete p) s = .next t ∧ engineFrame r s t ∧ answered r (.delete .ok 0 0) t ∧
        t.coord.obj h.objIx = ⟨advanceGen h.gen, .free⟩ ∧ objectsKeptBut h.objIx s t ∧ sessionNow j x.renewed s t ∧
        sessionsKeptBut j s t ∧ t.coord.waits = s.coord.waits ∧ noticesKept s t) ∧
    ((s.coord.obj h.objIx).body = .faulted →
      ∃ t, exec (.delete p) s = .next t ∧ engineFrame r s t ∧ answered r (.delete .ok 0 0) t ∧
        t.coord.obj h.objIx = ⟨advanceGen h.gen, .free⟩ ∧ objectsKeptBut h.objIx s t ∧ sessionNow j x.renewed s t ∧
        sessionsKeptBut j s t ∧ t.coord.waits = s.coord.waits ∧ t.coord.boxes = s.coord.boxes ∧
        t.coord.engineOut = s.coord.engineOut ++ [.faultedFreed] ∧ t.coord.integrityOut = s.coord.integrityOut)

/-- R11: DELETE with force frees the entry. A lock that another session holds and nobody waits for is taken from its
holder's holds, and REVOKED with reason DELETED is queued for it. Where one session waits as well, its wait is withdrawn
first: WITHDRAWN with reason DELETED is queued for it with the wait id and the tag, its wait count falls, and the wait
record is freed; a counter with one waiter is withdrawn from it likewise. The reply counts both. -/
def Obligations.ForceDeleteRevokesHolder : Prop :=
  (∀ (s : State) (p : Link) (r : Presented) (j k : SessIx) (x : SessRecord) (b : SessCurrent) (h : Handle)
     (name : List Byte) (l : LockRecord),
     engineTakes s p r → r.request = .delete h true → sessionServed s r j x → namesObject s h ⟨name, .lock l⟩ →
     l.holders = [k] → l.queue = [] → k ≠ j → (s.coord.sess k).body = some b → b.health = .clean →
     h ∈ b.record.holds →
     ∃ t, exec (.delete p) s = .next t ∧ engineFrame r s t ∧ answered r (.delete .ok 0 1) t ∧
       t.coord.obj h.objIx = ⟨advanceGen h.gen, .free⟩ ∧ objectsKeptBut h.objIx s t ∧ sessionNow j x.renewed s t ∧
       sessionNow k { b.record with holds := b.record.holds.erase h, nextSerial := advanceSerial b.record.nextSerial }
         s t ∧
       (∀ m, m ≠ j → m ≠ k → t.coord.sess m = s.coord.sess m) ∧ t.coord.waits = s.coord.waits ∧ boxesKeptBut k s t ∧
       (t.coord.box k).queue =
         (s.coord.box k).queue ++ [⟨b.record.nextSerial, .revoked .deleted, h, none, false, none⟩] ∧
       (t.coord.box k).view = (s.coord.box k).view ∧ reportsKept s t) ∧
  (∀ (s : State) (p : Link) (r : Presented) (j m : SessIx) (x : SessRecord) (u : SessCurrent) (h : Handle)
     (name : List Byte) (w : WaitIx) (y : WaitRecord),
     let id := waitHandle w (s.coord.wait w).gen
     let withdrawn (t : State) : Prop :=
       exec (.delete p) s = .next t ∧ engineFrame r s t ∧ t.coord.obj h.objIx = ⟨advanceGen h.gen, .free⟩ ∧
         objectsKeptBut h.objIx s t ∧ sessionNow j x.renewed s t ∧
         sessionNow m { u.record with
           lockWaits := if y.kind.isLock then u.record.lockWaits - 1 else u.record.lockWaits,
           counterWaits := if y.kind.isLock then u.record.counterWaits else u.record.counterWaits - 1,
           nextSerial := advanceSerial u.record.nextSerial } s t ∧
         (t.coord.box m).queue = (s.coord.box m).queue ++
           [⟨u.record.nextSerial, .withdrawn .deleted, h, some (id, y.tag), false, y.slotRef⟩] ∧
         (t.coord.box m).view = (s.coord.box m).view ∧ t.coord.wait w = ⟨advanceGen (s.coord.wait w).gen, none⟩ ∧
         waitsKeptBut w s t ∧ reportsKept s t
     engineTakes s p r → r.request = .delete h true → sessionServed s r j x → (s.coord.wait w).body = some y →
     y.object = h → y.owner = m → m ≠ j → (s.coord.sess m).body = some u → u.health = .clean →
     (∀ l k b, namesObject s h ⟨name, .lock l⟩ → l.holders = [k] → l.queue = [id] → k ≠ j → k ≠ m →
       (s.coord.sess k).body = some b → b.health = .clean → h ∈ b.record.holds →
       ∃ t, withdrawn t ∧ answered r (.delete .ok 1 1) t ∧
         sessionNow k { b.record with
           holds := b.record.holds.erase h, nextSerial := advanceSerial b.record.nextSerial } s t ∧
         (t.coord.box k).queue =
           (s.coord.box k).queue ++ [⟨b.record.nextSerial, .revoked .deleted, h, none, false, none⟩] ∧
         (t.coord.box k).view = (s.coord.box k).view ∧
         (∀ n, n ≠ j → n ≠ m → n ≠ k → t.coord.sess n = s.coord.sess n) ∧
         ∀ n, n ≠ m → n ≠ k → t.coord.box n = s.coord.box n) ∧
     ∀ c, namesObject s h ⟨name, .counter c⟩ → c.waiters = [id] →
       ∃ t, withdrawn t ∧ answered r (.delete .ok 1 0) t ∧
         (∀ n, n ≠ j → n ≠ m → t.coord.sess n = s.coord.sess n) ∧ boxesKeptBut m s t)

/-- R13: DESCRIBE answers the fields of the object's record and changes nothing but the lease. -/
def Obligations.DescribeReportsRecord : Prop :=
  ∀ (s : State) (p : Link) (r : Presented) (j : SessIx) (x : SessRecord) (h : Handle) (name : List Byte),
    engineTakes s p r → r.request = .describe h → sessionServed s r j x →
    (∀ l, namesObject s h ⟨name, .lock l⟩ →
      ∃ t, exec (.describe p) s = .next t ∧ engineFrame r s t ∧ onlySession j x.renewed s t ∧
        answered r (.describe .ok (.lock name l.mode l.holders l.queue.length l.rank l.capacity l.abandoned)) t) ∧
    (∀ k, namesObject s h ⟨name, .counter k⟩ →
      ∃ t, exec (.describe p) s = .next t ∧ engineFrame r s t ∧ onlySession j x.renewed s t ∧
        answered r (.describe .ok (.counter name k.value k.ceiling k.waiters.length)) t)

/-- R14: with every object record sound, LIST_OBJECTS reports the first six entries that are not FREE from its start
index, each with its handle, its kind (UNKNOWN for a FAULTED entry) and its state, and the index of the seventh, or 0. -/
def Obligations.ListObjectsReportsEntries : Prop :=
  ∀ (s : State) (p : Link) (r : Presented) (j : SessIx) (x : SessRecord) (start : Byte),
    engineTakes s p r → r.request = .listObjects start → sessionServed s r j x → objectsClean s →
    let found := (indices 256).filter fun i => decide (start.toNat ≤ i.val) && (s.coord.obj i).body != .free
    ∃ t, exec (.listObjects p) s = .next t ∧ engineFrame r s t ∧ onlySession j x.renewed s t ∧
      answered r (.listObjects .ok
        ((found.take 6).map fun i => ⟨s.coord.objHandle i, ((s.coord.record? i).map (·.kind.field)).getD .unknown,
          (s.coord.record? i).isNone⟩)
        ((found[6]?.map (·.val)).getD 0)) t

/-! ### The engine's requests: locks -/

/-- R22 to R27: an ACQUIRE by a session without the ordered flag that has neither the lock nor a wait on it and fewer than
8 holds and lock waits. With headroom of at least 1, a lock with an empty queue that is FREE, or SHARED with room for a
SHARED request, is granted at once: the session joins the holders and the lock its holds. With try clear, headroom of at
least 2 and a free wait record, any other lock is queued for: the wait joins the tail of the queue, and the reply carries
the wait id and the position. -/
def Obligations.AcquireGrantsOrQueues : Prop :=
  (∀ (s : State) (p : Link) (r : Presented) (j : SessIx) (x : SessRecord) (h : Handle) (mode : Byte) (try_ : Bool)
     (deadline : Option Nat) (name : List Byte) (l : LockRecord),
     engineTakes s p r → r.request = .acquire h mode try_ deadline → sessionServed s r j x →
     namesObject s h ⟨name, .lock l⟩ → (∀ d, deadline = some d → 1 ≤ d ∧ d ≤ 65535) → h ∉ x.holds →
     notWaitingOn s j h → x.holds.length + x.lockWaits < 8 → x.ordered = false → l.queue = [] →
     2 * x.lockWaits + x.counterWaits + x.holds.length + (s.coord.box j).queue.length < 32 →
     (mode = 0 ∧ l.mode = .free ∨
       mode = 1 ∧ (l.mode = .free ∨ l.mode = .shared ∧ l.holders.length < l.capacity)) →
     ∃ t, exec (.acquire p) s = .next t ∧ engineFrame r s t ∧ answered r (.acquire .ok l.abandoned Handle.zero 0) t ∧
       onlyObject h.objIx (.live ⟨name, .lock { l with
           holders := l.holders ++ [j], mode := if mode = 0 then .exclusive else .shared }⟩ .clean) j
         { x.renewed with holds := x.holds ++ [h] } s t) ∧
  (∀ (s : State) (p : Link) (r : Presented) (j : SessIx) (x : SessRecord) (h : Handle) (mode : Byte)
     (deadline : Option Nat) (name : List Byte) (l : LockRecord) (w : WaitIx),
     engineTakes s p r → r.request = .acquire h mode false deadline → sessionServed s r j x →
     namesObject s h ⟨name, .lock l⟩ → (∀ d, deadline = some d → 1 ≤ d ∧ d ≤ 65535) → h ∉ x.holds →
     notWaitingOn s j h → x.holds.length + x.lockWaits < 8 → x.ordered = false →
     2 * x.lockWaits + x.counterWaits + x.holds.length + (s.coord.box j).queue.length < 31 →
     lowestFreeWait s w →
     (mode = 0 ∧ (l.queue ≠ [] ∨ l.mode ≠ .free) ∨
       mode = 1 ∧ (l.queue ≠ [] ∨ l.mode = .exclusive ∨ l.mode = .shared ∧ l.capacity ≤ l.holders.length)) →
     let id := waitHandle w (s.coord.wait w).gen
     ∃ t, exec (.acquire p) s = .next t ∧ engineFrame r s t ∧
       answered r (.acquire .queued false id (l.queue.length + 1)) t ∧
       t.coord.obj h.objIx = ⟨h.gen, .live ⟨name, .lock { l with queue := l.queue ++ [id] }⟩ .clean⟩ ∧
       t.coord.wait w = ⟨(s.coord.wait w).gen, some ⟨j, h, if mode = 0 then .exclusive else .shared, deadline,
         r.header.tag, some (slotRefOf s r)⟩⟩ ∧
       sessionNow j { x.renewed with lockWaits := x.lockWaits + 1 } s t ∧ objectsKeptBut h.objIx s t ∧
       sessionsKeptBut j s t ∧ waitsKeptBut w s t ∧ noticesKept s t)

/-- R24: a session with the ordered flag that holds a lock of the same or a higher rank is refused with
ORDER_VIOLATION, and only its lease is renewed. -/
def Obligations.OrderedAcquireRefusesLowRank : Prop :=
  ∀ (s : State) (p : Link) (r : Presented) (j : SessIx) (x : SessRecord) (h g : Handle) (mode : Byte) (try_ : Bool)
    (deadline : Option Nat) (name name' : List Byte) (l m : LockRecord),
    engineTakes s p r → r.request = .acquire h mode try_ deadline → sessionServed s r j x →
    namesObject s h ⟨name, .lock l⟩ → namesObject s g ⟨name', .lock m⟩ →
    (∀ d, deadline = some d → 1 ≤ d ∧ d ≤ 65535) → mode = 0 ∨ mode = 1 → x.holds = [g] → h ≠ g → ownsNoWait s j →
    x.lockWaits < 7 → x.ordered = true → l.rank.toNat ≤ m.rank.toNat →
    ∃ t, exec (.acquire p) s = .next t ∧ engineFrame r s t ∧
      answered r (.acquire .orderViolation false Handle.zero 0) t ∧ onlySession j x.renewed s t

/-- R18, R33, R34, R36: RELEASE of a lock nobody waits for takes the session from the holders and the lock from its holds;
the repaired flag clears the abandoned flag, and a lock left without holders is FREE. RELEASE of a lock the session does
not hold is answered NOT_HELD and only renews the lease. Both replies report the abandoned flag. That the NOT_HELD reply
counts no grants is an inference of the model (log entry 24). -/
def Obligations.ReleaseRemovesHold : Prop :=
  ∀ (s : State) (p : Link) (r : Presented) (j : SessIx) (x : SessRecord) (h : Handle) (repaired : Bool)
    (name : List Byte) (l : LockRecord),
    engineTakes s p r → r.request = .release h repaired → sessionServed s r j x →
    namesObject s h ⟨name, .lock l⟩ →
    (h ∈ x.holds → l.queue = [] →
      ∃ t, exec (.release p) s = .next t ∧ engineFrame r s t ∧
        answered r (.release .ok 0 (l.abandoned && !repaired)) t ∧
        onlyObject h.objIx (.live ⟨name, .lock { l with
            holders := l.holders.erase j, mode := if l.holders.erase j = [] then .free else l.mode,
            abandoned := l.abandoned && !repaired }⟩ .clean) j
          { x.renewed with holds := x.holds.erase h } s t) ∧
    (h ∉ x.holds →
      ∃ t, exec (.release p) s = .next t ∧ engineFrame r s t ∧ answered r (.release .notHeld 0 l.abandoned) t ∧
        onlySession j x.renewed s t)

/-- R29, R30, R33: RELEASE by the only holder of a lock with one waiter grants the lock to the waiter: its session
becomes the holder in the mode it asked for, GRANTED is queued for it with the abandoned flag, and the wait record is
freed. -/
def Obligations.ReleaseGrantsNextWaiter : Prop :=
  ∀ (s : State) (p : Link) (r : Presented) (j k : SessIx) (x : SessRecord) (b : SessCurrent) (h : Handle)
    (name : List Byte) (l : LockRecord) (w : WaitIx) (y : WaitRecord),
    engineTakes s p r → r.request = .release h false → sessionServed s r j x →
    namesObject s h ⟨name, .lock l⟩ → x.holds = [h] → l.holders = [j] →
    l.queue = [waitHandle w (s.coord.wait w).gen] → (s.coord.wait w).body = some y → y.owner = k → k ≠ j →
    y.object = h → y.kind = .exclusive ∨ y.kind = .shared → (s.coord.sess k).body = some b → b.health = .clean →
    ∃ t, exec (.release p) s = .next t ∧ engineFrame r s t ∧ answered r (.release .ok 1 l.abandoned) t ∧
      t.coord.obj h.objIx = ⟨h.gen, .live ⟨name, .lock { l with
        holders := [k], mode := if y.kind = .exclusive then .exclusive else .shared, queue := [] }⟩ .clean⟩ ∧
      t.coord.wait w = ⟨advanceGen (s.coord.wait w).gen, none⟩ ∧ sessionNow j { x.renewed with holds := [] } s t ∧
      sessionNow k { b.record with
        lockWaits := b.record.lockWaits - 1, holds := b.record.holds ++ [h],
        nextSerial := advanceSerial b.record.nextSerial } s t ∧
      (t.coord.box k).queue = (s.coord.box k).queue ++ [⟨b.record.nextSerial, .granted l.abandoned, h,
        some (waitHandle w (s.coord.wait w).gen, y.tag), false, y.slotRef⟩] ∧
      (t.coord.box k).view = (s.coord.box k).view ∧ objectsKeptBut h.objIx s t ∧ waitsKeptBut w s t ∧
      (∀ m, m ≠ j → m ≠ k → t.coord.sess m = s.coord.sess m) ∧ boxesKeptBut k s t ∧ reportsKept s t

/-- R73: CANCEL ends a wait of its own session without a notice: the entry leaves the counter's list, or the lock's queue
of which it is the only entry, the owner's count falls, and the record is freed with its generation advanced. -/
def Obligations.CancelEndsOwnWait : Prop :=
  ∀ (s : State) (p : Link) (r : Presented) (j : SessIx) (x : SessRecord) (w : WaitIx) (y : WaitRecord)
    (name : List Byte),
    let id := waitHandle w (s.coord.wait w).gen
    engineTakes s p r → r.request = .cancel id → sessionServed s r j x → (s.coord.wait w).gen ≠ 0 →
    (s.coord.wait w).body = some y → y.owner = j →
    (∀ l, namesObject s y.object ⟨name, .lock l⟩ → y.kind.isLock = true → l.queue = [id] →
      ∃ t, exec (.cancel p) s = .next t ∧ engineFrame r s t ∧ answered r (.cancel .ok y.object 0) t ∧
        t.coord.obj y.object.objIx = ⟨y.object.gen, .live ⟨name, .lock { l with queue := [] }⟩ .clean⟩ ∧
        t.coord.wait w = ⟨advanceGen (s.coord.wait w).gen, none⟩ ∧
        sessionNow j { x.renewed with lockWaits := x.lockWaits - 1 } s t ∧ objectsKeptBut y.object.objIx s t ∧
        sessionsKeptBut j s t ∧ waitsKeptBut w s t ∧ noticesKept s t) ∧
    (∀ k, namesObject s y.object ⟨name, .counter k⟩ → y.kind.isLock = false →
      ∃ t, exec (.cancel p) s = .next t ∧ engineFrame r s t ∧ answered r (.cancel .ok y.object 0) t ∧
        t.coord.obj y.object.objIx =
          ⟨y.object.gen, .live ⟨name, .counter { k with waiters := k.waiters.erase id }⟩ .clean⟩ ∧
        t.coord.wait w = ⟨advanceGen (s.coord.wait w).gen, none⟩ ∧
        sessionNow j { x.renewed with counterWaits := x.counterWaits - 1 } s t ∧ objectsKeptBut y.object.objIx s t ∧
        sessionsKeptBut j s t ∧ waitsKeptBut w s t ∧ noticesKept s t)

/-! ### The engine's requests: counters -/

/-- R48 to R54: on a counter without waiters each arithmetic request whose operand passes its check is answered OK with
the old and the new value, and stores the new value: COUNT_READ the value, COUNT_SET its operand, COUNT_ADD the exact
sum, COUNT_SWAP the new value if the expected one is found, COUNT_RAISE the larger and COUNT_LOWER the smaller value. An
operand above the ceiling, or a sum outside 0..ceiling, is refused with RANGE, and the counter keeps its value. -/
def Obligations.CounterRequestsStoreOrRefuse : Prop :=
  (∀ (s : State) (p : Link) (r : Presented) (j : SessIx) (x : SessRecord) (h : Handle) (name : List Byte)
     (k : CounterRecord),
     engineTakes s p r → sessionServed s r j x → namesObject s h ⟨name, .counter k⟩ → k.waiters = [] →
     (r.request = .countRead h →
       ∃ t, exec (.countRead p) s = .next t ∧ countDone r h name k k.value j x s t) ∧
     (∀ v, r.request = .countSet h v → v ≤ k.ceiling →
       ∃ t, exec (.countSet p) s = .next t ∧ countDone r h name k v j x s t) ∧
     (∀ (d : Int) (v : Nat), r.request = .countAdd h d → (k.value : Int) + d = v → v ≤ k.ceiling →
       ∃ t, exec (.countAdd p) s = .next t ∧ countDone r h name k v j x s t) ∧
     (∀ e v, r.request = .countSwap h e v → v ≤ k.ceiling →
       ∃ t, exec (.countSwap p) s = .next t ∧ countDone r h name k (if k.value = e then v else k.value) j x s t) ∧
     (∀ v, r.request = .countRaise h v → v ≤ k.ceiling →
       ∃ t, exec (.countRaise p) s = .next t ∧ countDone r h name k (if v < k.value then k.value else v) j x s t) ∧
     ∀ v, r.request = .countLower h v →
       ∃ t, exec (.countLower p) s = .next t ∧ countDone r h name k (if v < k.value then v else k.value) j x s t) ∧
  (∀ (s : State) (p : Link) (r : Presented) (j : SessIx) (x : SessRecord) (h : Handle) (name : List Byte)
     (k : CounterRecord),
     engineTakes s p r → sessionServed s r j x → namesObject s h ⟨name, .counter k⟩ →
     (∀ v, r.request = .countSet h v → k.ceiling < v →
       ∃ t, exec (.countSet p) s = .next t ∧ countOutOfRange r k j x s t) ∧
     (∀ d : Int, r.request = .countAdd h d → (k.value : Int) + d < 0 ∨ (k.ceiling : Int) < k.value + d →
       ∃ t, exec (.countAdd p) s = .next t ∧ countOutOfRange r k j x s t) ∧
     (∀ e v, r.request = .countSwap h e v → k.ceiling < v →
       ∃ t, exec (.countSwap p) s = .next t ∧ countOutOfRange r k j x s t) ∧
     ∀ v, r.request = .countRaise h v → k.ceiling < v →
       ∃ t, exec (.countRaise p) s = .next t ∧ countOutOfRange r k j x s t)

/-- R58, R59: a COUNT_ADD that raises the counter to or above the threshold of its only waiter, of another session,
releases it: a take lowers the value by the threshold, REACHED is queued with the value left, the owner's count falls
and the wait record is freed; the reply carries the value left and one release. -/
def Obligations.RisingCountReleasesWaiter : Prop :=
  ∀ (s : State) (p : Link) (r : Presented) (j m : SessIx) (x : SessRecord) (b : SessCurrent) (h : Handle) (d : Int)
    (v : Nat) (name : List Byte) (k : CounterRecord) (w : WaitIx) (y : WaitRecord) (threshold : Nat) (take : Bool),
    engineTakes s p r → r.request = .countAdd h d → sessionServed s r j x → namesObject s h ⟨name, .counter k⟩ →
    (k.value : Int) + d = v → v ≤ k.ceiling → k.value < v → k.waiters = [waitHandle w (s.coord.wait w).gen] →
    (s.coord.wait w).body = some y → y.kind = .atLeast threshold take → threshold ≤ v → y.object = h → y.owner = m →
    m ≠ j → (s.coord.sess m).body = some b → b.health = .clean →
    let left := if take then v - threshold else v
    ∃ t, exec (.countAdd p) s = .next t ∧ engineFrame r s t ∧
      answered r (.count .ok k.value left true 1) t ∧
      t.coord.obj h.objIx = ⟨h.gen, .live ⟨name, .counter { k with value := left, waiters := [] }⟩ .clean⟩ ∧
      t.coord.wait w = ⟨advanceGen (s.coord.wait w).gen, none⟩ ∧ sessionNow j x.renewed s t ∧
      sessionNow m { b.record with
        counterWaits := b.record.counterWaits - 1, nextSerial := advanceSerial b.record.nextSerial } s t ∧
      (t.coord.box m).queue = (s.coord.box m).queue ++ [⟨b.record.nextSerial, .reached left, h,
        some (waitHandle w (s.coord.wait w).gen, y.tag), false, y.slotRef⟩] ∧
      (t.coord.box m).view = (s.coord.box m).view ∧ objectsKeptBut h.objIx s t ∧ waitsKeptBut w s t ∧
      (∀ n, n ≠ j → n ≠ m → t.coord.sess n = s.coord.sess n) ∧ boxesKeptBut m s t ∧ reportsKept s t

/-- R55 to R57: an AWAIT whose threshold, in 1..ceiling, is at most the value is answered OK at once, and with take set
lowers the value by the threshold. With try clear, headroom of at least 1 and a free wait record, one whose threshold is
above the value places a wait at the tail of the waiter list. -/
def Obligations.AwaitSatisfiedOrQueued : Prop :=
  (∀ (s : State) (p : Link) (r : Presented) (j : SessIx) (x : SessRecord) (h : Handle) (threshold : Nat)
     (take try_ : Bool) (deadline : Option Nat) (name : List Byte) (k : CounterRecord),
     engineTakes s p r → r.request = .await h threshold take try_ deadline → sessionServed s r j x →
     namesObject s h ⟨name, .counter k⟩ → (∀ d, deadline = some d → 1 ≤ d ∧ d ≤ 65535) → notWaitingOn s j h →
     1 ≤ threshold → threshold ≤ k.ceiling → threshold ≤ k.value →
     let left := if take then k.value - threshold else k.value
     ∃ t, exec (.await p) s = .next t ∧ engineFrame r s t ∧
       answered r (.await .ok k.value left take 0 Handle.zero) t ∧
       onlyObject h.objIx (.live ⟨name, .counter { k with value := left }⟩ .clean) j x.renewed s t) ∧
  (∀ (s : State) (p : Link) (r : Presented) (j : SessIx) (x : SessRecord) (h : Handle) (threshold : Nat) (take : Bool)
     (deadline : Option Nat) (name : List Byte) (k : CounterRecord) (w : WaitIx),
     engineTakes s p r → r.request = .await h threshold take false deadline → sessionServed s r j x →
     namesObject s h ⟨name, .counter k⟩ → (∀ d, deadline = some d → 1 ≤ d ∧ d ≤ 65535) → notWaitingOn s j h →
     threshold ≤ k.ceiling → k.value < threshold →
     2 * x.lockWaits + x.counterWaits + x.holds.length + (s.coord.box j).queue.length < 32 → lowestFreeWait s w →
     let id := waitHandle w (s.coord.wait w).gen
     ∃ t, exec (.await p) s = .next t ∧ engineFrame r s t ∧ answered r (.await .queued k.value k.value false 0 id) t ∧
       t.coord.obj h.objIx = ⟨h.gen, .live ⟨name, .counter { k with waiters := k.waiters ++ [id] }⟩ .clean⟩ ∧
       t.coord.wait w = ⟨(s.coord.wait w).gen, some ⟨j, h, .atLeast threshold take, deadline, r.header.tag,
         some (slotRefOf s r)⟩⟩ ∧
       sessionNow j { x.renewed with counterWaits := x.counterWaits + 1 } s t ∧ objectsKeptBut h.objIx s t ∧
       sessionsKeptBut j s t ∧ waitsKeptBut w s t ∧ noticesKept s t)

/-! ### The device requests -/

/-- R167, R188: IDENTIFY answers the device epoch and the reset cause with the identification codes, and changes nothing
but the management unit's last served port. The layout of the body, which R189 does not write out, is read from R188 (log
entry 21). -/
def Obligations.IdentifyReportsEpochAndCause : Prop :=
  ∀ (s : State) (p : Link) (r : Presented), mgmtTakes s p r → r.request = .identify →
    (∃ t, exec (.identify p) s = .next t ∧ mgmtFrame r s t ∧ t.ports = s.ports ∧
      t.mgmt = { s.mgmt with lastServed := p } ∧ answered r (.identify .ok s.mgmt.epoch s.mgmt.cause) t) ∧
    (ReplyBody.identify .ok s.mgmt.epoch s.mgmt.cause).bytes =
      [0, 0x19, 0x3E, 0x20, 0x06, 1] ++ putU16 s.mgmt.epoch.toNat ++
        [s.mgmt.cause.code, 4, 0, 32, 0, 0, 1, 128, 0, 8, 0, 24, 0, 16, 0]

/-- R169: PARAM_GET answers the parameter with the id, or RANGE with id and value 0 for an id outside 1..9, on any link,
and changes no parameter and nothing else. -/
def Obligations.ParamGetReportsValue : Prop :=
  ∀ (s : State) (p : Link) (r : Presented) (id : Byte), mgmtTakes s p r → r.request = .paramGet id →
    ∃ t, exec (.paramGet p) s = .next t ∧ mgmtFrame r s t ∧ t.ports = s.ports ∧
      t.mgmt = { s.mgmt with lastServed := p } ∧
      (if 1 ≤ id.toNat ∧ id.toNat ≤ 9 then answered r (.param .ok id.toNat (s.mgmt.params.get id)) t
        else answered r (.param .range 0 0) t)

/-- R168, R170, R152: a PARAM_SET of a value in range, that does not name as management link a port that stays down,
replaces the value; setting AUTO_RESTART moves each FAILED port whose holdoff has expired, and whose bit is set, to
WAITING or on to GREETING; no other port and no other parameter changes. An unknown id, a value out of range, or a
management link whose port is OFF is answered RANGE, and no parameter changes. -/
def Obligations.ParamSetReplacesOrRefuses : Prop :=
  (∀ (s : State) (p : Link) (r : Presented) (id : Byte) (v : Nat), mgmtTakes s p r → r.request = .paramSet id v →
     1 ≤ id.toNat → id.toNat ≤ 9 → (paramRange id).1 ≤ v → v ≤ (paramRange id).2 →
     (∀ l : Link, id = 1 → l.val = v → (s.port l).state ≠ .off ∧
       ((s.port l).state = .failed → s.mgmt.params.autoRestart.testBit v = true)) →
     ∃ t, exec (.paramSet p) s = .next t ∧ mgmtFrame r s t ∧ answered r (.param .ok id.toNat v) t ∧
       t.mgmt = { s.mgmt with lastServed := p, params := s.mgmt.params.set id v } ∧ t.mgmt.params.get id = v ∧
       (∀ other : Byte, other ≠ id → t.mgmt.params.get other = s.mgmt.params.get other) ∧
       ∀ l, if id = 7 ∧ (s.port l).state = .failed ∧ (s.port l).holdoffTimer = none ∧ v.testBit l.val = true then
           (t.port l).state = (if (s.port l).laneReady then .greeting else .waiting)
         else t.port l = s.port l) ∧
  (∀ (s : State) (p : Link) (r : Presented) (id : Byte) (v : Nat), mgmtTakes s p r → r.request = .paramSet id v →
     ((id.toNat < 1 ∨ 9 < id.toNat) →
       ∃ t, exec (.paramSet p) s = .next t ∧ mgmtFrame r s t ∧ answered r (.param .range 0 0) t ∧ t.ports = s.ports ∧
         t.mgmt = { s.mgmt with lastServed := p }) ∧
     (1 ≤ id.toNat → id.toNat ≤ 9 →
       (v < (paramRange id).1 ∨ (paramRange id).2 < v ∨ id = 1 ∧ ∃ l : Link, l.val = v ∧ (s.port l).state = .off) →
       ∃ t, exec (.paramSet p) s = .next t ∧ mgmtFrame r s t ∧
         answered r (.param .range id.toNat (s.mgmt.params.get id)) t ∧ t.ports = s.ports ∧
         t.mgmt = { s.mgmt with lastServed := p }))

/-- R171, R172: STATS_GET of a group 0..4 answers its counters in reply order, and with the clear flag sets that group's
counters alone to 0. -/
def Obligations.StatsGetReportsAndClears : Prop :=
  ∀ (s : State) (p : Link) (r : Presented) (g : Byte) (clear : Bool), mgmtTakes s p r → r.request = .statsGet g clear →
    g.toNat ≤ 4 →
    ∃ t, exec (.statsGet p) s = .next t ∧ mgmtFrame r s t ∧ t.ports = s.ports ∧
      (∀ l : Link, l.val = g.toNat → answered r (.stats .ok g.toNat s.mgmt.linkStats[l].counters) t) ∧
      (g.toNat = 4 → answered r (.stats .ok 4 s.mgmt.deviceStats.counters) t) ∧
      (∀ l : Link, t.mgmt.linkStats[l].counters =
        if clear = true ∧ l.val = g.toNat then List.replicate 9 0 else s.mgmt.linkStats[l].counters) ∧
      t.mgmt.deviceStats.counters =
        (if clear = true ∧ g.toNat = 4 then List.replicate 4 0 else s.mgmt.deviceStats.counters) ∧
      t.mgmt = { s.mgmt with
        lastServed := p, linkStats := t.mgmt.linkStats, deviceStats := t.mgmt.deviceStats }

/-- R151, R152, R176: LINK_CONTROL START moves an OFF or FAILED port to WAITING, and on to GREETING where its lane is
ready, and leaves any other port as it is. STOP of another link makes its port OFF; from GREETING or UP the buffers
are emptied, the failure reports are made and LINK_FAILED with reason STOPPED is reported. STOP of the link it
arrived on is refused with NOT_PERMITTED. The command byte is 0 for START and 1 for STOP, as log entry 22 reads the
spec. -/
def Obligations.LinkControlStartsAndStopsPort : Prop :=
  (∀ (s : State) (p l : Link) (r : Presented) (link : Byte), mgmtTakes s p r → r.request = .linkControl link 0 →
     link.toNat = l.val →
     ∃ t, exec (.linkControlStart p) s = .next t ∧ mgmtFrame r s t ∧ t.mgmt = { s.mgmt with lastServed := p } ∧
       portsKeptBut l s t ∧ answered r (.linkControl .ok l.val (t.port l).state) t ∧
       (if (s.port l).state = .off ∨ (s.port l).state = .failed then
         (t.port l).state = (if (s.port l).laneReady then .greeting else .waiting) ∧ (t.port l).holdoffTimer = none ∧
           (t.port l).out = (s.port l).out
       else t.port l = s.port l)) ∧
  (∀ (s : State) (p l : Link) (r : Presented) (link : Byte), mgmtTakes s p r → r.request = .linkControl link 1 →
     link.toNat = l.val →
     (l ≠ p → ∃ t, exec (.linkControlStop p) s = .next t ∧ mgmtFrame r s t ∧
       t.mgmt = { s.mgmt with lastServed := p } ∧ portsKeptBut l s t ∧ answered r (.linkControl .ok l.val .off) t ∧
       (t.port l).state = .off ∧
       ((s.port l).state = .greeting ∨ (s.port l).state = .up →
         (t.port l).rxBuffer = [] ∧ (t.port l).replay = [] ∧ (t.port l).failDispatcher = true ∧
           (t.port l).failEngine = true ∧ (t.port l).failNotices = true ∧
           (t.port l).out = (s.port l).out ++ [.linkFailed l .stopped]) ∧
       ((s.port l).state = .waiting ∨ (s.port l).state = .failed ∨ (s.port l).state = .off →
         (t.port l).out = (s.port l).out)) ∧
     (l = p → ∃ t, exec (.linkControlStop p) s = .next t ∧ mgmtFrame r s t ∧
       t.mgmt = { s.mgmt with lastServed := p } ∧ t.ports = s.ports ∧
       answered r (.linkControl .notPermitted l.val (s.port l).state) t))

/-- R183: a DEVICE_RESET of a known scope is answered OK with the scope and the epoch to come, sets reset pending and
starts the grace timer at 100 fine ticks. The scope byte is 0 for SESSIONS and 1 for ALL, as log entry 22 reads the
spec. -/
def Obligations.DeviceResetBecomesPending : Prop :=
  ∀ (s : State) (p : Link) (r : Presented) (scope : Byte) (sc : Scope), mgmtTakes s p r →
    r.request = .deviceReset scope → scope = sc.code →
    ∃ t, exec (.deviceReset p) s = .next t ∧ mgmtFrame r s t ∧ t.ports = s.ports ∧
      t.mgmt = { s.mgmt with lastServed := p, reset := some sc, grace := some 100 } ∧
      answered r (.deviceReset .ok scope.toNat (if s.mgmt.epoch = 65535 then 1 else s.mgmt.epoch + 1)) t

/-! ### The request path and the notice unit -/

/-- R134: while a reset is pending no request is taken by either unit, and no message leaves a receive buffer. A
command with nothing to take leaves the state as it was (the model's choice, log entry 2). -/
def Obligations.PendingResetStopsRequests : Prop :=
  ∀ (s : State) (p : Link) (c : Instr), s.mgmt.reset.isSome = true →
    c ∈ [.openSession p, .resume p, .renew p, .close p, .create p, .find p, .delete p, .describe p, .listObjects p,
      .acquire p, .release p, .cancel p, .countRead p, .countSet p, .countAdd p, .countSwap p, .countRaise p,
      .countLower p, .await p, .listSessions p, .identify p, .paramGet p, .paramSet p, .statsGet p,
      .linkControlStart p, .linkControlStop p, .deviceReset p, .takeRequest p, .dropNonRequest p] →
    exec c s = .next s

/-- R127, R128, R129, R133, R134: the request a unit takes next, the engine or the management unit, is exactly that of the
presenting port whose oldest PENDING request is for the unit and before which, in the cyclic order that begins after the
unit's last served port, no presenting port has an oldest PENDING request for the unit. No port presents while a reset is
pending (R134); else a port presents while it is UP. A port that is no longer UP presents as well until its dispatcher
takes the failure report, which withdraws the presentation (R133, as log entry 31, an inference of the model, reads
it). -/
def Obligations.ArbiterServesNextPresentingPort : Prop :=
  ∀ (s : State) (unit : Route) (p : Link) (k : SlotIx) (hdr : RequestHeader) (req : Request),
    offer? unit (lastServedBy unit s) s = some ⟨p, k, hdr, req, unit⟩ ↔
      presenting s p ∧ oldestPending s p k hdr req unit ∧
        ∀ q, servedBefore (lastServedBy unit s) q p → presenting s q →
          ∀ n hdr' req', ¬ oldestPending s q n hdr' req' unit

/-- R118, R121, R123, R125: on an UP port with no reset pending, TAKE_REQUEST takes a REQUEST from the head of the
receive buffer into the lowest FREE slot: the occupancy number and T rise by one, the slot joins the reply queue's tail
and holds what the generic checks make of the message: the request PENDING, or the refusal FINISHED. The refusal of a
LINK_CONTROL there is zero after the status as well, as log entry 43, an inference of the model, reads R125 and R176.
DROP_NON_REQUEST drops a message of another kind, without a slot, and reports it to the statistics. -/
def Obligations.DispatcherTakesHeadOfBuffer : Prop :=
  (∀ (s : State) (p : Link) (m : Message) (rest : List Message) (k : SlotIx),
     (s.port p).state = .up → s.mgmt.reset = none → (s.port p).rxBuffer = m :: rest → m.kind = 1 →
     ((s.disp p).slot k).body = .free → (∀ n, n < k → ((s.disp p).slot n).body ≠ .free) →
     ∃ t, exec (.takeRequest p) s = .next t ∧ t.coord = s.coord ∧ t.mgmt = s.mgmt ∧ t.engineLast = s.engineLast ∧
       t.timebase = s.timebase ∧ t.patrol = s.patrol ∧ t.pending = s.pending ∧ portsKeptBut p s t ∧
       (∀ q, q ≠ p → t.disp q = s.disp q) ∧
       t.port p = { s.port p with rxBuffer := rest, taken := (s.port p).taken + 1 } ∧
       (t.disp p).queue = (s.disp p).queue ++ [k] ∧ (∀ n, n ≠ k → (t.disp p).slot n = (s.disp p).slot n) ∧
       (t.disp p).freed = (s.disp p).freed ∧ (t.disp p).out = (s.disp p).out ∧
       ((t.disp p).slot k).occupancy = ((s.disp p).slot k).occupancy + 1 ∧
       (∀ st, genericChecks s.mgmt.params.mgmtLink p m s.coord = .error st →
         ((t.disp p).slot k).body = .finished ⟨m.code, m.tag, m.session, refusal m.code s.mgmt.epoch st⟩) ∧
       ∀ req, genericChecks s.mgmt.params.mgmtLink p m s.coord = .ok req →
         ((t.disp p).slot k).body = .pending ⟨m.code, m.tag, m.session⟩ req req.route) ∧
  (∀ (s : State) (p : Link) (m : Message) (rest : List Message),
     (s.port p).state = .up → s.mgmt.reset = none → (s.port p).rxBuffer = m :: rest → m.kind ≠ 1 →
     ∃ t, exec (.dropNonRequest p) s = .next t ∧ t.coord = s.coord ∧ t.mgmt = s.mgmt ∧ t.engineLast = s.engineLast ∧
       t.timebase = s.timebase ∧ t.patrol = s.patrol ∧ t.pending = s.pending ∧ portsKeptBut p s t ∧
       (∀ q, q ≠ p → t.disp q = s.disp q) ∧
       t.port p = { s.port p with rxBuffer := rest, taken := (s.port p).taken + 1 } ∧
       t.disp p = { s.disp p with out := (s.disp p).out ++ [.stat p .nonRequestDropped] })

/-- R84, R96, R123, R124: the generic checks in order. A body length above 48 or other than the bytes present is MALFORMED;
then a code outside 1..26 is UNKNOWN_REQUEST; then fields that do not account for the body are MALFORMED; then a device
request that names a session is MALFORMED, and one that only the management link may send is NOT_PERMITTED elsewhere; then
a session request whose handle has an index outside 1..32, or names an entry that is FREE or of another generation, is
answered NO_SESSION; a RESUME of an OPEN session IN_USE; and any other request of a session that is ORPHANED or bound to
another link NOT_BOUND. What fails none of them passes. -/
def Obligations.GenericChecksInOrder : Prop :=
  ∀ (mgmtLink : Nat) (p : Link) (m : Message) (c : Coord),
    (48 < m.bodyLen.toNat ∨ m.bodyLen.toNat ≠ m.body.length → genericChecks mgmtLink p m c = .error .malformed) ∧
    (m.bodyLen.toNat ≤ 48 → m.bodyLen.toNat = m.body.length →
      (m.code = 0 ∨ 26 < m.code.toNat → genericChecks mgmtLink p m c = .error .unknownRequest) ∧
      (1 ≤ m.code.toNat → m.code.toNat ≤ 26 →
        (parseRequest m.code m.flags m.body = none → genericChecks mgmtLink p m c = .error .malformed) ∧
        ∀ req, parseRequest m.code m.flags m.body = some req →
          (21 ≤ m.code.toNat →
            genericChecks mgmtLink p m c =
              if m.session ≠ Handle.zero then .error .malformed
              else if req.needsMgmtLink = true ∧ p.val ≠ mgmtLink then .error .notPermitted else .ok req) ∧
          (m.code = 1 → genericChecks mgmtLink p m c = .ok req) ∧
          (2 ≤ m.code.toNat → m.code.toNat ≤ 20 →
            (m.session.index = 0 ∨ 32 < m.session.index.toNat → genericChecks mgmtLink p m c = .error .noSession) ∧
            ∀ j : SessIx, m.session.index.toNat = j.val + 1 →
              ((c.sess j).body = none ∨ (c.sess j).gen ≠ m.session.gen →
                genericChecks mgmtLink p m c = .error .noSession) ∧
              ∀ b, (c.sess j).body = some b → (c.sess j).gen = m.session.gen →
                genericChecks mgmtLink p m c =
                  if m.code = 2 then (if b.orphaned = true then .ok req else .error .inUse)
                  else if b.orphaned = true ∨ b.bound ≠ p then .error .notBound else .ok req)))

/-- R71, R109: the taking of a freeing report makes every wait's matching slot reference absent and lifts every matching
hold; other references and holds stay, and nothing else changes. -/
def Obligations.FreeingReportClearsReferences : Prop :=
  ∀ (s : State) (r : SlotRef), r ∈ (s.disp r.port).freed →
    ∃ t, exec (.slotFreeingReport r) s = .next t ∧
      (∀ w y, (s.coord.wait w).body = some y →
        t.coord.wait w = ⟨(s.coord.wait w).gen,
          some { y with slotRef := if y.slotRef = some r then none else y.slotRef }⟩) ∧
      (∀ w, (s.coord.wait w).body = none → t.coord.wait w = s.coord.wait w) ∧
      (∀ j, (t.coord.box j).view = (s.coord.box j).view ∧
        (t.coord.box j).queue = (s.coord.box j).queue.map fun n =>
          { n with held := if n.held = some r then none else n.held }) ∧
      t.coord.objects = s.coord.objects ∧ t.coord.sessions = s.coord.sessions ∧ reportsKept s t ∧
      t.disp r.port = { s.disp r.port with freed := (s.disp r.port).freed.erase r } ∧
      (∀ q, q ≠ r.port → t.disp q = s.disp q) ∧ t.ports = s.ports ∧ t.mgmt = s.mgmt ∧
      t.engineLast = s.engineLast ∧ t.timebase = s.timebase ∧ t.patrol = s.patrol ∧ t.pending = s.pending

/-- R94: the engine's taking of a port's failure report makes every session OPEN and bound to the link ORPHANED, with
its bound link, record and generation unchanged, and leaves every other session as it was; R113: REVERT_NOTICES makes
every SENT notice of the sessions the notice unit holds OPEN on the link UNSENT, and sets them ORPHANED in its view.
The port's acknowledgment reports that are still outstanding go with either report (the model's choice, log entry 7). -/
def Obligations.FailureReportsOrphanAndRevert : Prop :=
  ∀ (s : State) (p : Link),
    ((s.port p).failEngine = true →
      ∃ t, exec (.orphanSessions p) s = .next t ∧
        (∀ j b, (s.coord.sess j).body = some b → b.orphaned = false → b.bound = p →
          t.coord.sess j = ⟨(s.coord.sess j).gen, some { b with orphaned := true }⟩ ∧
            (t.coord.box j).view = (s.coord.box j).view.map (fun v => { v with orphaned := true }) ∧
            (t.coord.box j).queue = (s.coord.box j).queue.map fun n => { n with sent := false }) ∧
        (∀ j, (∀ b, (s.coord.sess j).body = some b → b.orphaned = false → b.bound ≠ p) →
          t.coord.sess j = s.coord.sess j ∧ t.coord.box j = s.coord.box j) ∧
        t.coord.objects = s.coord.objects ∧ t.coord.waits = s.coord.waits ∧ reportsKept s t ∧
        t.port p = { s.port p with failEngine := false, noticeAcks := [] } ∧ portsKeptBut p s t ∧
        t.disps = s.disps ∧ t.mgmt = s.mgmt ∧ t.timebase = s.timebase ∧ t.patrol = s.patrol ∧
        t.engineLast = s.engineLast ∧ t.pending = s.pending) ∧
    ((s.port p).failNotices = true →
      ∃ t, exec (.revertNotices p) s = .next t ∧
        (∀ j v, (s.coord.box j).view = some v → v.orphaned = false → v.link = p →
          t.coord.box j = ⟨some { v with orphaned := true },
            (s.coord.box j).queue.map fun n => { n with sent := false }⟩) ∧
        (∀ j, (∀ v, (s.coord.box j).view = some v → v.orphaned = false → v.link ≠ p) →
          t.coord.box j = s.coord.box j) ∧
        t.coord.objects = s.coord.objects ∧ t.coord.sessions = s.coord.sessions ∧ t.coord.waits = s.coord.waits ∧
        reportsKept s t ∧ t.port p = { s.port p with failNotices := false, noticeAcks := [] } ∧ portsKeptBut p s t ∧
        t.disps = s.disps ∧ t.mgmt = s.mgmt ∧ t.timebase = s.timebase ∧ t.patrol = s.patrol ∧
        t.engineLast = s.engineLast ∧ t.pending = s.pending)

/-- R132: the dispatcher's taking of its port's failure report frees every slot of the reply queue, in queue order,
keeping the occupancy numbers and reporting each freeing, and empties the queue. -/
def Obligations.FailureReportDiscardsSlots : Prop :=
  ∀ (s : State) (p : Link), (s.port p).failDispatcher = true →
    ∃ t, exec (.discardSlots p) s = .next t ∧ (t.disp p).queue = [] ∧
      (∀ k, ((t.disp p).slot k).occupancy = ((s.disp p).slot k).occupancy) ∧
      (∀ k, k ∈ (s.disp p).queue → ((t.disp p).slot k).body = .free) ∧
      (∀ k, k ∉ (s.disp p).queue → (t.disp p).slot k = (s.disp p).slot k) ∧
      (t.disp p).freed = (s.disp p).freed ++
        (s.disp p).queue.map (fun k => ⟨p, k, ((s.disp p).slot k).occupancy⟩) ∧
      (t.disp p).out = (s.disp p).out ∧ t.port p = { s.port p with failDispatcher := false } ∧
      portsKeptBut p s t ∧ (∀ q, q ≠ p → t.disp q = s.disp q) ∧ t.coord = s.coord ∧ t.mgmt = s.mgmt ∧
      t.engineLast = s.engineLast ∧ t.timebase = s.timebase ∧ t.patrol = s.patrol ∧ t.pending = s.pending

/-- R112: the report of an acknowledged notice removes the SENT notice of that serial from the queue of the session that
the unit holds at the handle's generation. -/
def Obligations.AcknowledgedNoticeLeavesQueue : Prop :=
  ∀ (s : State) (p : Link) (j : SessIx) (v : NoticeView) (serial : Nat) (rest : List (Handle × Nat))
    (before after : List Notice) (n : Notice),
    (s.port p).noticeAcks = (Machine.sessHandle j v.gen, serial) :: rest → (s.coord.box j).view = some v →
    (s.coord.box j).queue = before ++ n :: after → n.sent = true → n.serial = serial →
    (∀ m, m ∈ before → m.serial ≠ serial) →
    ∃ t, exec (.noticeAckReport p) s = .next t ∧ t.coord.box j = ⟨some v, before ++ after⟩ ∧
      boxesKeptBut j s t ∧ t.coord.objects = s.coord.objects ∧ t.coord.sessions = s.coord.sessions ∧
      t.coord.waits = s.coord.waits ∧ reportsKept s t ∧ t.port p = { s.port p with noticeAcks := rest } ∧
      portsKeptBut p s t ∧ t.disps = s.disps ∧ t.mgmt = s.mgmt ∧ t.engineLast = s.engineLast ∧
      t.timebase = s.timebase ∧ t.patrol = s.patrol ∧ t.pending = s.pending

/-! ### Time and the patrol -/

/-- R75, R86, R179: a coarse tick in which no lease and no deadline runs out, with the session records sound, lowers
every remaining lease and every present deadline by one, and changes no object, no notice and no generation. The patrol
passes over a position whose entry is FREE and moves to the next. -/
def Obligations.CoarseTickCountsDown : Prop :=
  ∀ (s : State) (patrolFirst : Bool), 0 < s.timebase.coarseDue → sessionsClean s → noneRunsOut s none none →
    (∀ h : s.patrol.position.val < 256, (s.coord.obj ⟨s.patrol.position.val, h⟩).body = .free) →
    ∃ t, exec (.coarseTick patrolFirst) s = .next t ∧ (∀ n, leaseCounted n s t) ∧ (∀ v, deadlineCounted v s t) ∧
      t.coord.objects = s.coord.objects ∧ noticesKept s t ∧ tickFrame s t

/-- R40, R72, R74, R75, R92: what a lease and a deadline that run out do. In a coarse tick in which one lease of 1 runs
out, that of the only holder of a lock with one waiter: the session, which waits for nothing, is freed with the generation
advanced and its notices discarded, its expiry is reported with one hold released, and step 4 grants the lock, abandoned,
to the waiter. In one in which one deadline of 1 runs out, that of a counter's only waiter: the wait leaves the list, the
owner's count falls, TIMED_OUT is queued with the wait id and the tag, and the wait record is freed. Every other lease and
deadline is lowered by one. The rows LEASE_EXPIRY and DEADLINE_EXPIRY act likewise on what has reached 0 outside a tick
(the model's choice, log entry 5). -/
def Obligations.LeaseAndDeadlineExpire : Prop :=
  (∀ (s : State) (patrolFirst : Bool) (j k : SessIx) (b b' : SessCurrent) (h : Handle) (name : List Byte)
     (l : LockRecord) (w : WaitIx) (y : WaitRecord),
     let id := waitHandle w (s.coord.wait w).gen
     0 < s.timebase.coarseDue → sessionsClean s → objectsClean s → noneRunsOut s (some j) none →
     (s.coord.sess j).body = some b → b.record.remaining = 1 → b.record.holds = [h] → ownsNoWait s j →
     namesObject s h ⟨name, .lock l⟩ → l.holders = [j] → l.queue = [id] → (s.coord.wait w).body = some y →
     y.object = h → y.kind = .exclusive ∨ y.kind = .shared → y.owner = k → (s.coord.sess k).body = some b' →
     ∃ t, exec (.coarseTick patrolFirst) s = .next t ∧ tickFrame s t ∧
       t.coord.sess j = ⟨advanceGen (s.coord.sess j).gen, none⟩ ∧ t.coord.box j = ⟨none, []⟩ ∧
       t.coord.engineOut = s.coord.engineOut ++ [.sessionExpired (s.coord.sessHandle j) 1] ∧
       t.coord.integrityOut = s.coord.integrityOut ∧
       t.coord.obj h.objIx = ⟨h.gen, .live ⟨name, .lock { l with
         holders := [k], mode := if y.kind = .exclusive then .exclusive else .shared, queue := [],
         abandoned := true }⟩ .clean⟩ ∧
       t.coord.wait w = ⟨advanceGen (s.coord.wait w).gen, none⟩ ∧
       sessionNow k { b'.record with
         remaining := b'.record.remaining - 1, lockWaits := b'.record.lockWaits - 1, holds := b'.record.holds ++ [h],
         nextSerial := advanceSerial b'.record.nextSerial } s t ∧
       (t.coord.box k).queue = (s.coord.box k).queue ++
         [⟨b'.record.nextSerial, .granted true, h, some (id, y.tag), false, y.slotRef⟩] ∧
       (t.coord.box k).view = (s.coord.box k).view ∧ objectsKeptBut h.objIx s t ∧
       (∀ n, n ≠ j → n ≠ k → leaseCounted n s t ∧ t.coord.box n = s.coord.box n) ∧
       ∀ v, v ≠ w → deadlineCounted v s t) ∧
  (∀ (s : State) (patrolFirst : Bool) (w : WaitIx) (y : WaitRecord) (b : SessCurrent) (name : List Byte)
     (k : CounterRecord),
     let id := waitHandle w (s.coord.wait w).gen
     0 < s.timebase.coarseDue → sessionsClean s → objectsClean s → noneRunsOut s none (some w) →
     (s.coord.wait w).body = some y → y.deadline = some 1 → y.kind.isLock = false →
     namesObject s y.object ⟨name, .counter k⟩ → k.waiters = [id] → (s.coord.sess y.owner).body = some b →
     ∃ t, exec (.coarseTick patrolFirst) s = .next t ∧ tickFrame s t ∧
       t.coord.wait w = ⟨advanceGen (s.coord.wait w).gen, none⟩ ∧
       t.coord.obj y.object.objIx = ⟨y.object.gen, .live ⟨name, .counter { k with waiters := [] }⟩ .clean⟩ ∧
       sessionNow y.owner { b.record with
         remaining := b.record.remaining - 1, counterWaits := b.record.counterWaits - 1,
         nextSerial := advanceSerial b.record.nextSerial } s t ∧
       (t.coord.box y.owner).queue = (s.coord.box y.owner).queue ++
         [⟨b.record.nextSerial, .timedOut, y.object, some (id, y.tag), false, y.slotRef⟩] ∧
       (t.coord.box y.owner).view = (s.coord.box y.owner).view ∧ reportsKept s t ∧ objectsKeptBut y.object.objIx s t ∧
       (∀ n, n ≠ y.owner → leaseCounted n s t ∧ t.coord.box n = s.coord.box n) ∧ ∀ v, v ≠ w → deadlineCounted v s t) ∧
  (∀ (s : State) (j : SessIx) (b : SessCurrent) (h : Handle) (name : List Byte) (l : LockRecord),
     (s.coord.sess j).body = some b → b.health = .clean → b.record.remaining = 0 → b.record.holds = [h] →
     ownsNoWait s j → namesObject s h ⟨name, .lock l⟩ → l.holders = [j] → l.queue = [] →
     ∃ t, exec (.leaseExpiry j) s = .next t ∧ tablesFrame s t ∧
       t.coord.sess j = ⟨advanceGen (s.coord.sess j).gen, none⟩ ∧ t.coord.box j = ⟨none, []⟩ ∧
       t.coord.obj h.objIx =
         ⟨h.gen, .live ⟨name, .lock { l with holders := [], mode := .free, abandoned := true }⟩ .clean⟩ ∧
       t.coord.engineOut = s.coord.engineOut ++ [.sessionExpired (s.coord.sessHandle j) 1] ∧
       t.coord.integrityOut = s.coord.integrityOut ∧ t.coord.waits = s.coord.waits ∧ objectsKeptBut h.objIx s t ∧
       sessionsKeptBut j s t ∧ boxesKeptBut j s t) ∧
  (∀ (s : State) (w : WaitIx) (y : WaitRecord) (b : SessCurrent) (name : List Byte) (k : CounterRecord),
     let id := waitHandle w (s.coord.wait w).gen
     (s.coord.wait w).body = some y → y.deadline = some 0 → y.kind.isLock = false →
     namesObject s y.object ⟨name, .counter k⟩ → k.waiters = [id] → (s.coord.sess y.owner).body = some b →
     b.health = .clean →
     ∃ t, exec (.deadlineExpiry w) s = .next t ∧ tablesFrame s t ∧
       t.coord.wait w = ⟨advanceGen (s.coord.wait w).gen, none⟩ ∧
       t.coord.obj y.object.objIx = ⟨y.object.gen, .live ⟨name, .counter { k with waiters := [] }⟩ .clean⟩ ∧
       sessionNow y.owner { b.record with
         counterWaits := b.record.counterWaits - 1, nextSerial := advanceSerial b.record.nextSerial } s t ∧
       (t.coord.box y.owner).queue = (s.coord.box y.owner).queue ++
         [⟨b.record.nextSerial, .timedOut, y.object, some (id, y.tag), false, y.slotRef⟩] ∧
       (t.coord.box y.owner).view = (s.coord.box y.owner).view ∧ waitsKeptBut w s t ∧
       objectsKeptBut y.object.objIx s t ∧ sessionsKeptBut y.owner s t ∧ boxesKeptBut y.owner s t ∧ reportsKept s t)

/-- R41, R43, R99, R178, R179, R180, R181: what the patrol finds and the engine does with it. A patrol report of an object
that is still LIVE at the report's generation makes the entry FAULTED at its generation and reports it; the one wait on it
is withdrawn and the one hold on it revoked, each with a notice of reason FAULTED. A patrol report of a session that is
still current at the report's generation, without waits, frees its entry with the generation advanced, discards its
notices, reports it, and takes it from the holders of the one lock that lists it, which is abandoned. A report of any
other entry is dropped. A patrol step corrects and reports an object record with one wrong bit, and makes a report of an
uncorrectable one, which it leaves as it is. -/
def Obligations.PatrolReportFaultsObject : Prop :=
  (∀ (s : State) (r : PatrolReport) (rest : List PatrolReport) (i : ObjIx),
     s.patrol.reports = r :: rest → r.position.val = i.val →
     let h := s.coord.objHandle i
     (∀ o u, (s.coord.obj i).body = .live o u → (s.coord.obj i).gen = r.gen → sessionsClean s →
       (∀ w y, (s.coord.wait w).body = some y → y.object ≠ h) →
       (∀ j x, s.coord.sessRecord? j = some x → h ∉ x.holds) →
       ∃ t, exec .patrolFaultReport s = .next t ∧ reportFrame rest s t ∧
         t.coord.obj i = ⟨(s.coord.obj i).gen, .faulted⟩ ∧ objectsKeptBut i s t ∧
         t.coord.sessions = s.coord.sessions ∧ t.coord.waits = s.coord.waits ∧ t.coord.boxes = s.coord.boxes ∧
         t.coord.engineOut = s.coord.engineOut ++ [.recordFaulted h] ∧ t.coord.integrityOut = s.coord.integrityOut) ∧
     (∀ o u w y j k b b', (s.coord.obj i).body = .live o u → (s.coord.obj i).gen = r.gen → sessionsClean s →
       (s.coord.wait w).body = some y → y.object = h → (∀ v z, (s.coord.wait v).body = some z → z.object = h → v = w) →
       y.owner = k → (s.coord.sess k).body = some b' → j ≠ k → (s.coord.sess j).body = some b →
       h ∈ b.record.holds → (∀ n x, n ≠ j → s.coord.sessRecord? n = some x → h ∉ x.holds) →
       ∃ t, exec .patrolFaultReport s = .next t ∧ reportFrame rest s t ∧
         t.coord.obj i = ⟨(s.coord.obj i).gen, .faulted⟩ ∧ objectsKeptBut i s t ∧
         t.coord.wait w = ⟨advanceGen (s.coord.wait w).gen, none⟩ ∧ waitsKeptBut w s t ∧
         sessionNow k { b'.record with
           lockWaits := if y.kind.isLock then b'.record.lockWaits - 1 else b'.record.lockWaits,
           counterWaits := if y.kind.isLock then b'.record.counterWaits else b'.record.counterWaits - 1,
           nextSerial := advanceSerial b'.record.nextSerial } s t ∧
         (t.coord.box k).queue = (s.coord.box k).queue ++ [⟨b'.record.nextSerial, .withdrawn .faulted, h,
           some (waitHandle w (s.coord.wait w).gen, y.tag), false, y.slotRef⟩] ∧
         (t.coord.box k).view = (s.coord.box k).view ∧
         sessionNow j { b.record with
           holds := b.record.holds.erase h, nextSerial := advanceSerial b.record.nextSerial } s t ∧
         (t.coord.box j).queue =
           (s.coord.box j).queue ++ [⟨b.record.nextSerial, .revoked .faulted, h, none, false, none⟩] ∧
         (t.coord.box j).view = (s.coord.box j).view ∧
         (∀ n, n ≠ j → n ≠ k → t.coord.sess n = s.coord.sess n ∧ t.coord.box n = s.coord.box n) ∧
         t.coord.engineOut = s.coord.engineOut ++ [.recordFaulted h] ∧ t.coord.integrityOut = s.coord.integrityOut) ∧
     ((∀ o u, (s.coord.obj i).body = .live o u → (s.coord.obj i).gen ≠ r.gen) →
       exec .patrolFaultReport s = .next { s with patrol := { s.patrol with reports := rest } })) ∧
  (∀ (s : State) (r : PatrolReport) (rest : List PatrolReport) (j : SessIx),
     s.patrol.reports = r :: rest → r.position.val = 256 + j.val →
     (∀ b h name l, (s.coord.sess j).body = some b → (s.coord.sess j).gen = r.gen → objectsClean s → ownsNoWait s j →
       namesObject s h ⟨name, .lock l⟩ → j ∈ l.holders → l.queue = [] →
       (∀ i n m, i ≠ h.objIx → s.coord.record? i = some ⟨n, .lock m⟩ → j ∉ m.holders) →
       ∃ t, exec .patrolFaultReport s = .next t ∧ reportFrame rest s t ∧
         t.coord.sess j = ⟨advanceGen (s.coord.sess j).gen, none⟩ ∧ t.coord.box j = ⟨none, []⟩ ∧
         t.coord.obj h.objIx = ⟨h.gen, .live ⟨name, .lock { l with
           holders := l.holders.erase j, mode := if l.holders.erase j = [] then .free else l.mode,
           abandoned := true }⟩ .clean⟩ ∧
         objectsKeptBut h.objIx s t ∧ sessionsKeptBut j s t ∧ boxesKeptBut j s t ∧ t.coord.waits = s.coord.waits ∧
         t.coord.engineOut = s.coord.engineOut ++ [.sessionFaulted (s.coord.sessHandle j)] ∧
         t.coord.integrityOut = s.coord.integrityOut) ∧
     ((s.coord.sess j).body = none ∨ (s.coord.sess j).gen ≠ r.gen →
       exec .patrolFaultReport s = .next { s with patrol := { s.patrol with reports := rest } })) ∧
  (∀ (s : State) (patrolFirst : Bool) (i : ObjIx) (o : ObjRecord), 0 < s.timebase.coarseDue → sessionsClean s →
     noneRunsOut s none none → s.mgmt.params.scrub = 1 → s.patrol.position.val = i.val →
     ((s.coord.obj i).body = .live o .oneBit →
       ∃ t, exec (.coarseTick patrolFirst) s = .next t ∧ t.coord.obj i = ⟨(s.coord.obj i).gen, .live o .clean⟩ ∧
         objectsKeptBut i s t ∧ t.coord.boxes = s.coord.boxes ∧ t.coord.engineOut = s.coord.engineOut ∧
         t.coord.integrityOut = s.coord.integrityOut ++ [.recordCorrected] ∧ (∀ n, leaseCounted n s t) ∧
         (∀ v, deadlineCounted v s t) ∧ tickFrame s t) ∧
     ((s.coord.obj i).body = .live o .uncorrectable →
       ∃ t, exec (.coarseTick patrolFirst) s = .next t ∧ t.coord.objects = s.coord.objects ∧ noticesKept s t ∧
         t.patrol = ⟨s.patrol.position + 1, s.patrol.reports ++ [⟨s.patrol.position, (s.coord.obj i).gen⟩]⟩))

/-- R66, R148: a fine tick before which no expiry is outstanding counts every timer down by one and every UP port's
silence up by one; every tenth fine tick delivers a coarse tick. The timers count down to 0 in the model (log entry
10), and the coarse tick waits for the engine (log entry 4). -/
def Obligations.FineTickAdvancesTimers : Prop :=
  ∀ (s : State),
    (∀ p, (s.port p).greetingTimer ≠ some 0 ∧ (s.port p).helloTimer ≠ some 0 ∧ (s.port p).holdoffTimer ≠ some 0 ∧
      (s.port p).idleTimer ≠ some 0 ∧ (s.port p).rewindTimer ≠ some 0 ∧ (s.port p).silenceDue = false) →
    s.mgmt.grace ≠ some 0 →
    ∃ t, exec (.fineTick []) s = .next t ∧ t.coord = s.coord ∧ t.disps = s.disps ∧ t.engineLast = s.engineLast ∧
      t.patrol = s.patrol ∧ t.pending = s.pending ∧ t.mgmt = { s.mgmt with grace := s.mgmt.grace.map (· - 1) } ∧
      t.timebase = (if s.timebase.fine + 1 < 10 then ⟨0, s.timebase.fine + 1, s.timebase.coarseDue⟩
        else ⟨0, 0, s.timebase.coarseDue + 1⟩) ∧
      ∀ p, t.port p = { s.port p with
        greetingTimer := (s.port p).greetingTimer.map (· - 1), helloTimer := (s.port p).helloTimer.map (· - 1),
        holdoffTimer := (s.port p).holdoffTimer.map (· - 1), idleTimer := (s.port p).idleTimer.map (· - 1),
        rewindTimer := (s.port p).rewindTimer.map (· - 1),
        silence := if (s.port p).state = .up then (s.port p).silence + 1 else (s.port p).silence,
        silenceDue := decide ((s.port p).state = .up ∧ s.mgmt.params.silenceLimit ≤ (s.port p).silence + 1) }

/-! ### The timers of a port -/

/-- R139, R148, R152, R158: the expiries of a port's timers. The greeting timer and the silence limit fail the port
with their reasons; the HELLO timer restarts and sends a HELLO, at once on an idle lane and when the frame in progress
ends otherwise (one is due at most, log entry 35); the holdoff timer returns the port to WAITING, or
on to GREETING, if its AUTO_RESTART bit is set, and leaves it FAILED otherwise; the rewind timer makes a REWIND due
and restarts below REWIND_LIMIT attempts, and fails the port otherwise. The timers count down to 0 in the model (log
entry 10). -/
def Obligations.PortTimersExpire : Prop :=
  ∀ (s : State) (p : Link),
    ((s.port p).state = .greeting → (s.port p).greetingTimer = some 0 →
      ∃ t, exec (.greetingTimerExpiry p) s = .next t ∧ portFrame p s t ∧ (t.port p).state = .failed ∧
        (t.port p).out = (s.port p).out ++ [.linkFailed p .noGreeting]) ∧
    ((s.port p).state = .greeting → (s.port p).helloTimer = some 0 →
      ∃ t, exec (.helloTimerExpiry p) s = .next t ∧ portFrame p s t ∧
        t.port p = if (s.port p).inProgress = none then
            { s.port p with helloTimer := some 10, helloDue := false,
                            inProgress := some (.hello ⟨1, 16, (s.port p).seen, true, s.mgmt.epoch⟩) }
          else { s.port p with helloTimer := some 10, helloDue := true }) ∧
    ((s.port p).state = .failed → (s.port p).holdoffTimer = some 0 →
      ∃ t, exec (.holdoffTimerExpiry p) s = .next t ∧ portFrame p s t ∧ (t.port p).holdoffTimer = none ∧
        (t.port p).state = (if s.mgmt.params.autoRestart.testBit p.val then
          (if (s.port p).laneReady then .greeting else .waiting) else .failed)) ∧
    ((s.port p).state = .up → (s.port p).silenceDue = true →
      ∃ t, exec (.silenceLimitReached p) s = .next t ∧ portFrame p s t ∧ (t.port p).state = .failed ∧
        (t.port p).out = (s.port p).out ++ [.linkFailed p .silence]) ∧
    ((s.port p).state = .up → (s.port p).discarding = true → (s.port p).rewindTimer = some 0 →
      ∃ t, exec (.rewindTimerExpiry p) s = .next t ∧ portFrame p s t ∧
        if (s.port p).attempts < s.mgmt.params.rewindLimit then
          t.port p = { s.port p with attempts := (s.port p).attempts + 1, rewindDue := true,
                                     rewindTimer := some s.mgmt.params.rewindPeriod }
        else (t.port p).state = .failed ∧ (t.port p).out = (s.port p).out ++ [.linkFailed p .rewindLimit])

/-- R137, R138, R139, R151, R152: what every failure of a port does, seen at the loss of the lane of a port in
GREETING or UP: FAILED, both buffers and the recovery state empty, the three failure reports made, LINK_FAILED
reported, and the holdoff timer started at ten fine ticks for each millisecond of RESTART_HOLDOFF; the frame numbers,
the counts, the partner limit, and the acknowledgment reports already made are kept. A lane that becomes ready moves
a WAITING port to GREETING, which starts both timers and sends a HELLO with the seen flag clear, at once on an idle
lane; a port in any other state only learns of its lane, which is the model's choice (log entry 26). Acknowledgment
reports already made wait to be taken (log entries 4 and 7). -/
def Obligations.LaneReportsMovePort : Prop :=
  (∀ (s : State) (p : Link), (s.port p).state = .greeting ∨ (s.port p).state = .up →
     ∃ t, exec (.laneLost p) s = .next t ∧ portFrame p s t ∧ (t.port p).state = .failed ∧
       (t.port p).laneReady = false ∧ (t.port p).rxBuffer = [] ∧ (t.port p).replay = [] ∧
       (t.port p).discarding = false ∧ (t.port p).replayPos = none ∧ (t.port p).markDue = none ∧
       (t.port p).rewindDue = false ∧ (t.port p).rewindTimer = none ∧ (t.port p).attempts = 0 ∧
       (t.port p).inProgress = none ∧ (t.port p).seen = false ∧ (t.port p).partnerHeard = false ∧
       (t.port p).greetingTimer = none ∧ (t.port p).helloTimer = none ∧ (t.port p).idleTimer = none ∧
       (t.port p).failDispatcher = true ∧ (t.port p).failEngine = true ∧ (t.port p).failNotices = true ∧
       (t.port p).out = (s.port p).out ++ [.linkFailed p .laneLost] ∧
       (t.port p).holdoffTimer = some (10 * s.mgmt.params.restartHoldoff) ∧
       (t.port p).nextNum = (s.port p).nextNum ∧ (t.port p).expected = (s.port p).expected ∧
       (t.port p).sentCount = (s.port p).sentCount ∧ (t.port p).taken = (s.port p).taken ∧
       (t.port p).partnerLimit = (s.port p).partnerLimit ∧ (t.port p).noticeAcks = (s.port p).noticeAcks) ∧
  (∀ (s : State) (p : Link),
     ∃ t, exec (.laneReady p) s = .next t ∧ portFrame p s t ∧
       t.port p = if (s.port p).state = .waiting then
           { s.port p with
             laneReady := true, state := .greeting, seen := false, partnerDepth := none,
             greetingTimer := some 5000, helloTimer := some 10, helloDue := (s.port p).inProgress.isSome,
             inProgress := some ((s.port p).inProgress.getD (.hello ⟨1, 16, false, true, s.mgmt.epoch⟩)) }
         else { s.port p with laneReady := true })

/-! ### Frames received -/

/-- R142, R143, R144, R146, R148, R155, R157: a good DATA frame at an UP port, whose ack removes nothing and whose limit is
in range. At an accepting receiver the expected number is accepted where the receive buffer has room, and fails the port
where it is full; one of the 24 numbers behind is a duplicate; any other is a sequence error, after which the receiver
discards. A DISCARDING receiver drops the frame, of any number, and counts nothing. In each case that leaves the port UP
the limit is taken and the silence timer restarts. That the frame also takes back a silence expiry still outstanding is
the model's choice (log entry 36). -/
def Obligations.AcceptingReceiverClassifiesData : Prop :=
  ∀ (s : State) (p : Link) (m : FrameNum) (limit : Credit) (msg : Message) (depth : Nat),
    let x := s.port p
    x.positioned → x.state = .up → msg.body.length ≤ 48 → x.partnerDepth = some depth →
    (limit - x.sentCount).toNat ≤ depth →
    let y := { x with silence := 0, silenceDue := false, partnerHeard := true, partnerLimit := limit }
    ∃ t, exec (.receiveData p m x.oldest limit msg) s = .next t ∧ portFrame p s t ∧
      if x.discarding then t.port p = y
      else if m = x.expected then
        if x.rxBuffer.length < 16 then
          t.port p = { y with rxBuffer := x.rxBuffer ++ [msg], expected := x.expected + 1,
                              out := x.out ++ [.stat p .framesAccepted] }
        else (t.port p).state = .failed ∧ (t.port p).out = x.out ++ [.linkFailed p .protocol]
      else if (x.expected - m).toNat ≤ 24 then
        t.port p = { y with out := x.out ++ [.stat p .duplicatesDropped] }
      else
        t.port p = { y with
          discarding := true, rewindDue := true, rewindTimer := some s.mgmt.params.rewindPeriod, attempts := 1,
          out := x.out ++ [.stat p .sequenceErrors] }

/-- R142, R144, R146: a good IDLE at an UP port, with a valid ack and a limit in range, removes the frames numbered before
the ack, reports the notices they carried in frame order and the OK reply to a DEVICE_RESET (its status, byte 0 of its
body, is read as log entry 14 says), and replaces the partner limit; an ack outside the replay
buffer, or a limit out of range, fails the port with reason PROTOCOL. -/
def Obligations.ReceivedAckAndLimitAreTaken : Prop :=
  ∀ (s : State) (p : Link) (a : FrameNum) (limit : Credit) (depth : Nat),
    let x := s.port p
    x.state = .up → x.partnerDepth = some depth →
    let n := (a - x.oldest).toNat
    ∃ t, exec (.receiveIdle p a limit) s = .next t ∧ portFrame p s t ∧
      if n ≤ x.replay.length ∧ (limit - x.sentCount).toNat ≤ depth then
        (t.port p).state = .up ∧ (t.port p).replay = x.replay.drop n ∧ (t.port p).partnerLimit = limit ∧
          (t.port p).silence = 0 ∧ (t.port p).partnerHeard = true ∧ (t.port p).out = x.out ∧
          (t.port p).noticeAcks = x.noticeAcks ++ noticesOf (x.replay.take n) ∧
          (t.port p).resetAck = (x.resetAck || okResetReplyIn (x.replay.take n)) ∧
          (t.port p).rxBuffer = x.rxBuffer ∧ (t.port p).expected = x.expected ∧ (t.port p).discarding = x.discarding
      else (t.port p).state = .failed ∧ (t.port p).replay = [] ∧
        (t.port p).out = x.out ++ [.linkFailed p .protocol]

/-- R144, R146, R148, R155, R157, R160, R161, R163: at an UP port, with an ack that removes nothing and a limit in range. A
good REWIND in range removes the frames before its number and reports the notices they carried in frame order and the OK
reply to a DEVICE_RESET (its status, byte 0 of its body, is read as log entry 14 says), makes a MARK due with that number,
starts the replay there unless no frame is left, and is counted; out of range it is stale: counted, and nothing else
beyond its ack and limit. A good MARK with the expected number returns a DISCARDING receiver to ACCEPTING, stops the
rewind timer and cancels a REWIND still due; any other MARK does nothing beyond its ack and limit. Every REWIND and MARK
restarts the silence timer; that it also takes back a silence expiry still outstanding is the model's choice (log
entry 36). -/
def Obligations.RewindAndMarkSteerRecovery : Prop :=
  (∀ (s : State) (p : Link) (limit : Credit) (n : FrameNum) (depth : Nat),
     let x := s.port p
     x.positioned → x.state = .up → x.partnerDepth = some depth → (limit - x.sentCount).toNat ≤ depth →
     let k := (n - x.oldest).toNat
     let y := { x with silence := 0, silenceDue := false, partnerHeard := true, partnerLimit := limit }
     ∃ t, exec (.receiveRewind p x.oldest limit n) s = .next t ∧ portFrame p s t ∧
       t.port p = if k ≤ x.replay.length then
           { y with
             replay := x.replay.drop k, markDue := some n,
             replayPos := if x.replay.length = k then none else some n,
             noticeAcks := x.noticeAcks ++ noticesOf (x.replay.take k),
             resetAck := x.resetAck || okResetReplyIn (x.replay.take k),
             out := x.out ++ [.stat p .replaysStarted] }
         else { y with out := x.out ++ [.stat p .staleRewinds] }) ∧
  (∀ (s : State) (p : Link) (limit : Credit) (n : FrameNum) (depth : Nat),
     let x := s.port p
     x.positioned → x.state = .up → x.partnerDepth = some depth → (limit - x.sentCount).toNat ≤ depth →
     let y := { x with silence := 0, silenceDue := false, partnerHeard := true, partnerLimit := limit }
     ∃ t, exec (.receiveMark p x.oldest limit n) s = .next t ∧ portFrame p s t ∧
       t.port p = if x.discarding = true ∧ n = x.expected then
           { y with discarding := false, rewindTimer := none, attempts := 0, rewindDue := false }
         else y)

/-- R142, R155, R156, R157: a rejected frame is counted in GREETING and in UP; in UP it makes an ACCEPTING receiver
DISCARDING, with a REWIND due, the rewind timer started and one attempt; elsewhere it is not counted. -/
def Obligations.RejectedFrameStartsRecovery : Prop :=
  ∀ (s : State) (p : Link),
    let x := s.port p
    ∃ t, exec (.rejectedFrame p) s = .next t ∧ portFrame p s t ∧
      t.port p =
        if x.state = .up ∧ x.discarding = false then
          { x with
            discarding := true, rewindDue := true, rewindTimer := some s.mgmt.params.rewindPeriod, attempts := 1,
            out := x.out ++ [.stat p .framesRejected] }
        else if x.state = .up ∨ x.state = .greeting then { x with out := x.out ++ [.stat p .framesRejected] } else x

/-- R139, R140, R141, R148: a HELLO at a port in GREETING that has no report of an earlier failure outstanding: one that is valid
records the depth and sets the seen flag, and with its own seen flag makes the port UP with its counts at 0 and
credit for the partner's whole buffer, and sends the final HELLO, at once on an idle lane; any other changes nothing. At
a port that is UP a straggler is dropped but for the silence timer, which restarts (the model's choice, log entry 37),
and any other HELLO fails the port with reason PARTNER_RESTART. Two more points are the model's choices. A greeting timer
that has run out, its expiry still outstanding, does not keep the port from coming UP, and a straggler takes back a
silence expiry still outstanding (log entry 36). A final HELLO called for behind a frame in progress is due, and joins
one that is due already (log entry 35). What happens to a failure report still outstanding is log entry 6's, and is left
out here. -/
def Obligations.HelloGreetsOrFails : Prop :=
  ∀ (s : State) (p : Link) (h : Hello),
    let x := s.port p
    let valid := h.role = false ∧ h.revision = 1 ∧ 1 ≤ h.depth.toNat ∧ h.depth.toNat ≤ 16
    (x.state = .greeting → x.failDispatcher = false → x.failEngine = false → x.failNotices = false →
      ∃ t, exec (.receiveHello p h) s = .next t ∧ portFrame p s t ∧
        (¬ valid → t.port p = x) ∧
        (valid → h.seen = false → t.port p = { x with partnerDepth := some h.depth.toNat, seen := true }) ∧
        (valid → h.seen = true →
          (t.port p).state = .up ∧ (t.port p).seen = true ∧ (t.port p).partnerDepth = some h.depth.toNat ∧
            (t.port p).partnerLimit.toNat = h.depth.toNat ∧ (t.port p).sentCount = 0 ∧ (t.port p).taken = 0 ∧
            (t.port p).nextNum = 0 ∧ (t.port p).expected = 0 ∧ (t.port p).replay = [] ∧ (t.port p).rxBuffer = [] ∧
            (t.port p).discarding = false ∧ (t.port p).replayPos = none ∧ (t.port p).partnerHeard = false ∧
            (t.port p).lastServed = 31 ∧ (t.port p).silence = 0 ∧ (t.port p).idleTimer = some 5 ∧
            (t.port p).helloDue = x.inProgress.isSome ∧
            (t.port p).inProgress = some (x.inProgress.getD (.hello ⟨1, 16, true, true, s.mgmt.epoch⟩)) ∧
            (t.port p).greetingTimer = none ∧ (t.port p).helloTimer = none ∧
            (t.port p).out = x.out ++ [.linkUp p])) ∧
    (x.state = .up →
      ∃ t, exec (.receiveHello p h) s = .next t ∧ portFrame p s t ∧
        if h.seen = true ∧ x.partnerHeard = false then t.port p = { x with silence := 0, silenceDue := false }
        else (t.port p).state = .failed ∧ (t.port p).out = x.out ++ [.linkFailed p .partnerRestart])

/-! ### Frames sent -/

/-- R139, R140, R147, R149, R159, R161, R162, R164: the control frames and replays an UP sender selects, in
precedence: the final HELLO of the greeting, then a REWIND with the expected number, then the MARK due, then the
frame at the replay position, and an IDLE where no DATA frame may be sent, or none waits to be, and the ack or limit has
changed or the idle timer has expired; otherwise nothing. Each but HELLO carries the expected number and T + 16. The
idle timer restarts at the selection (the model's choice, log entry 10). -/
def Obligations.SenderSelectsControlFirst : Prop :=
  ∀ (s : State) (p : Link),
    let x := s.port p
    x.state = .up →
    (x.helloDue = true →
      ∃ t, exec (.selectNextFrame p) s = .next t ∧ portFrame p s t ∧
        t.port p = { x with helloDue := false, idleTimer := some 5,
                            inProgress := some (.hello ⟨1, 16, x.seen, true, s.mgmt.epoch⟩) }) ∧
    (x.helloDue = false →
      (x.rewindDue = true →
        ∃ t, exec (.selectNextFrame p) s = .next t ∧ portFrame p s t ∧
          t.port p = { x with rewindDue := false, idleTimer := some 5,
                              lastAdvertised := some (x.expected, x.taken + 16),
                              inProgress := some (.rewind x.expected (x.taken + 16) x.expected),
                              out := x.out ++ [.stat p .rewindsSent] }) ∧
      (∀ n, x.rewindDue = false → x.markDue = some n →
        ∃ t, exec (.selectNextFrame p) s = .next t ∧ portFrame p s t ∧
          t.port p = { x with markDue := none, idleTimer := some 5,
                              lastAdvertised := some (x.expected, x.taken + 16),
                              inProgress := some (.mark x.expected (x.taken + 16) n) }) ∧
      (∀ pos e, x.rewindDue = false → x.markDue = none → x.replayPos = some pos →
        x.replay[(pos - x.oldest).toNat]? = some e →
        ∃ t, exec (.selectNextFrame p) s = .next t ∧ portFrame p s t ∧
          t.port p = { x with replayPos := if e.num + 1 = x.nextNum then none else some (e.num + 1),
                              idleTimer := some 5, lastAdvertised := some (x.expected, x.taken + 16),
                              inProgress := some (.data e.num x.expected (x.taken + 16) e.msg) }) ∧
      (x.rewindDue = false → x.markDue = none → x.replayPos = none →
        x.replay.length = 24 ∨ x.credit = 0 ∨ nothingReady s p →
        (x.lastAdvertised ≠ some (x.expected, x.taken + 16) ∨ x.idleTimer = some 0 →
          (∃ t, exec (.selectNextFrame p) s = .next t ∧ portFrame p s t ∧
            t.port p = { x with idleTimer := some 5, lastAdvertised := some (x.expected, x.taken + 16),
                                inProgress := some (.idle x.expected (x.taken + 16)) }) ∧
          (x.idleTimer = some 0 → x.inProgress = none →
            ∃ t, exec (.idleTimerExpiry p) s = .next t ∧ portFrame p s t ∧
              t.port p = { x with idleTimer := some 5, lastAdvertised := some (x.expected, x.taken + 16),
                                  inProgress := some (.idle x.expected (x.taken + 16)) })) ∧
        (x.lastAdvertised = some (x.expected, x.taken + 16) → x.idleTimer ≠ some 0 →
          ∃ t, exec (.selectNextFrame p) s = .next t ∧ portFrame p s t ∧ t.port p = { x with inProgress := none })))

/-- R110, R111, R121, R122, R125, R131, R134, R145, R149, R150, R174: a new DATA frame of an UP sender with nothing of
a higher precedence, credit and room. A FINISHED reply at the head of the reply queue goes first, and its slot is freed
and reported; where every slot was occupied, a REQUEST at the head of the receive buffer is taken into the freed slot,
unless a reset is pending (R134), and its slot holds what the generic checks make of it. The refusal of a LINK_CONTROL
there is zero after the status as well, as log entry 43, an inference of the model, reads R125 and R176. Replies go on
while a reset is pending (R134), on the management link also a reply FINISHED behind that to the DEVICE_RESET (the
model's choice, log entry 41). Then, on the management link, the oldest alert goes; then the eligible notice of the
first session, in the cyclic order that begins after the last served one, that has one: its oldest UNSENT notice, not
held, of a session OPEN on the link. The frame takes the next number and a place in the replay buffer, and N rises. The
idle timer restarts at the selection (the model's choice, log entry 10). -/
def Obligations.SenderSelectsReplyThenAlertThenNotice : Prop :=
  ∀ (s : State) (p : Link) (depth : Nat),
    let x := s.port p
    let sent (m : Message) (load : Carried) : Port :=
      { x with nextNum := x.nextNum + 1, sentCount := x.sentCount + 1, replay := x.replay ++ [⟨x.nextNum, m, load⟩],
               idleTimer := some 5, lastAdvertised := some (x.expected, x.taken + 16),
               inProgress := some (.data x.nextNum x.expected (x.taken + 16) m) }
    x.state = .up → x.helloDue = false → x.rewindDue = false → x.markDue = none → x.replayPos = none →
    x.partnerDepth = some depth → x.replay.length < 24 → 1 ≤ x.credit → x.credit ≤ depth →
    (∀ k rest reply, (s.disp p).queue = k :: rest → ((s.disp p).slot k).body = .finished reply →
      ((∃ n, ((s.disp p).slot n).body = .free) ∨ s.mgmt.reset.isSome = true ∨
          (∀ m ms, x.rxBuffer = m :: ms → m.kind ≠ 1) →
        ∃ t, exec (.selectNextFrame p) s = .next t ∧ t.port p = sent reply.message (.reply reply.code) ∧
          portsKeptBut p s t ∧ (t.disp p).queue = rest ∧
          (t.disp p).slot k = ⟨((s.disp p).slot k).occupancy, .free⟩ ∧
          (∀ n, n ≠ k → (t.disp p).slot n = (s.disp p).slot n) ∧
          (t.disp p).freed = (s.disp p).freed ++ [⟨p, k, ((s.disp p).slot k).occupancy⟩] ∧
          (∀ q, q ≠ p → t.disp q = s.disp q) ∧ t.coord = s.coord ∧ t.mgmt = s.mgmt) ∧
      (∀ m ms, (∀ n, ((s.disp p).slot n).body ≠ .free) → s.mgmt.reset = none → x.rxBuffer = m :: ms → m.kind = 1 →
        ∃ t, exec (.selectNextFrame p) s = .next t ∧
          t.port p = { sent reply.message (.reply reply.code) with rxBuffer := ms, taken := x.taken + 1 } ∧
          portsKeptBut p s t ∧ (t.disp p).queue = rest ++ [k] ∧
          ((t.disp p).slot k).occupancy = ((s.disp p).slot k).occupancy + 1 ∧
          (∀ st, genericChecks s.mgmt.params.mgmtLink p m s.coord = .error st →
            ((t.disp p).slot k).body = .finished ⟨m.code, m.tag, m.session, refusal m.code s.mgmt.epoch st⟩) ∧
          (∀ req, genericChecks s.mgmt.params.mgmtLink p m s.coord = .ok req →
            ((t.disp p).slot k).body = .pending ⟨m.code, m.tag, m.session⟩ req req.route) ∧
          (∀ n, n ≠ k → (t.disp p).slot n = (s.disp p).slot n) ∧
          (t.disp p).freed = (s.disp p).freed ++ [⟨p, k, ((s.disp p).slot k).occupancy⟩] ∧
          (∀ q, q ≠ p → t.disp q = s.disp q) ∧ t.coord = s.coord ∧ t.mgmt = s.mgmt)) ∧
    ((∀ k reply, ¬ replyReady s p k reply) →
      (∀ a rest, s.mgmt.params.mgmtLink = p.val → s.mgmt.alerts = a :: rest →
        ∃ t, exec (.selectNextFrame p) s = .next t ∧ t.port p = sent a.message .alert ∧ portsKeptBut p s t ∧
          t.mgmt = { s.mgmt with alerts := rest } ∧ t.disps = s.disps ∧ t.coord = s.coord) ∧
      (∀ j g n, (s.mgmt.params.mgmtLink = p.val → s.mgmt.alerts = []) → noticeReady s p j g n →
        (∀ i : SessIx, (i - x.lastServed - 1).val < (j - x.lastServed - 1).val → ∀ g' n', ¬ noticeReady s p i g' n') →
        ∃ t, exec (.selectNextFrame p) s = .next t ∧
          t.port p = { sent (n.message (Machine.sessHandle j g)) (.notice (Machine.sessHandle j g) n.serial) with
            lastServed := j } ∧
          portsKeptBut p s t ∧ t.mgmt = s.mgmt ∧ t.disps = s.disps ∧ boxesKeptBut j s t ∧
          (t.coord.box j).view = (s.coord.box j).view ∧
          (∃ before after, (s.coord.box j).queue = before ++ n :: after ∧ (∀ m, m ∈ before → m.sent = true) ∧
            (t.coord.box j).queue = before ++ { n with sent := true } :: after) ∧
          t.coord.objects = s.coord.objects ∧ t.coord.sessions = s.coord.sessions ∧
          t.coord.waits = s.coord.waits))

/-! ### Resets and the management unit -/

/-- R16, R81, R103, R135, R153, R184: a pending reset is performed at the expiry of the grace timer, and at the report
of the removed DEVICE_RESET reply: the epoch advances, every session and every wait in use is freed, every slot is FREE
with its occupancy number kept, every port not OFF is WAITING or on to GREETING, an OFF port stays OFF, every port has
empty buffers, its counts, frame numbers and partner limit at 0, the seen flag and partner heard clear and the holdoff
timer stopped, and under scope ALL every object entry is FREE with its generation advanced. The parameters are kept.
What becomes of the reports no unit has taken yet is the model's choice (log entry 8), and so is the place a lane's
condition has in it (log entry 26). -/
def Obligations.PendingResetIsPerformed : Prop :=
  ∀ (s : State) (sc : Scope), s.mgmt.reset = some sc →
    let done (t : State) : Prop :=
      t.mgmt.epoch = (if s.mgmt.epoch = 65535 then 1 else s.mgmt.epoch + 1) ∧
      t.mgmt.cause = (if sc = .all then .resetAll else .resetSessions) ∧ t.mgmt.reset = none ∧ t.mgmt.grace = none ∧
      t.mgmt.params = s.mgmt.params ∧ t.mgmt.lastServed = 3 ∧ t.engineLast = 3 ∧ t.timebase = ⟨0, 0, 0⟩ ∧
      t.patrol.position = 0 ∧ t.pending = s.pending ∧
      t.mgmt.alerts = (if s.mgmt.params.alertMask.testBit 5 then [.deviceReset sc t.mgmt.epoch] else []) ∧
      (sc = .all → t.mgmt.faultedCount = 0) ∧
      (∀ j, t.coord.sess j = ⟨if (s.coord.sess j).body.isSome then advanceGen (s.coord.sess j).gen
        else (s.coord.sess j).gen, none⟩) ∧
      (∀ w, t.coord.wait w = ⟨if (s.coord.wait w).body.isSome then advanceGen (s.coord.wait w).gen
        else (s.coord.wait w).gen, none⟩) ∧
      (∀ j, t.coord.box j = ⟨none, []⟩) ∧
      (sc = .all → ∀ i, t.coord.obj i = ⟨advanceGen (s.coord.obj i).gen, .free⟩) ∧
      (∀ p, (t.disp p).queue = [] ∧ ∀ k, (t.disp p).slot k = ⟨((s.disp p).slot k).occupancy, .free⟩) ∧
      (∀ p, (t.port p).state = (if (s.port p).state = .off then .off
          else if (s.port p).laneReady then .greeting else .waiting) ∧
        (t.port p).rxBuffer = [] ∧ (t.port p).replay = [] ∧ (t.port p).seen = false ∧
        (t.port p).partnerHeard = false ∧ (t.port p).sentCount = 0 ∧ (t.port p).taken = 0 ∧
        (t.port p).nextNum = 0 ∧ (t.port p).expected = 0 ∧ (t.port p).partnerLimit = 0 ∧
        (t.port p).holdoffTimer = none ∧ (t.port p).out = [])
    (s.mgmt.grace = some 0 → ∃ t, exec .graceTimerExpiry s = .next t ∧ done t) ∧
    ((∃ p, (s.port p).resetAck = true) → ∃ t, exec .resetReplyAcked s = .next t ∧ done t)

/-- R42, R63: at a reset of scope SESSIONS every LIVE lock keeps its name, rank and capacity and is FREE with no holder and
no queue, abandoned if it had a holder or was so before; every LIVE counter keeps its value and ceiling and has no
waiter; a FAULTED or FREE entry is as it was. No generation changes. -/
def Obligations.SessionResetKeepsObjects : Prop :=
  ∀ (s : State), s.mgmt.reset = some .sessions → s.mgmt.grace = some 0 → objectsClean s →
    ∃ t, exec .graceTimerExpiry s = .next t ∧
      ∀ i, (t.coord.obj i).gen = (s.coord.obj i).gen ∧
        (∀ name l, (s.coord.obj i).body = .live ⟨name, .lock l⟩ .clean →
          (t.coord.obj i).body = .live ⟨name, .lock { l with
            mode := .free, holders := [], queue := [], abandoned := l.abandoned || !l.holders.isEmpty }⟩ .clean) ∧
        (∀ name k, (s.coord.obj i).body = .live ⟨name, .counter k⟩ .clean →
          (t.coord.obj i).body = .live ⟨name, .counter { k with waiters := [] }⟩ .clean) ∧
        ((s.coord.obj i).body = .faulted → (t.coord.obj i).body = .faulted) ∧
        ((s.coord.obj i).body = .free → (t.coord.obj i).body = .free)

/-- R128, R129, R135, R153, R186: power-on and RESET_N put every table, dispatcher and parameter into its initial state, with epoch 1
and the cause; every port is WAITING, or on to GREETING where its lane is ready, with nothing in its buffers. A
lane's condition outlasts the reset (the model's choice, log entry 26). -/
def Obligations.PartResetRestoresInitialState : Prop :=
  ∀ (s : State),
    let done (cause : Cause) (t : State) : Prop :=
      (∀ i, t.coord.obj i = ⟨1, .free⟩) ∧ (∀ j, t.coord.sess j = ⟨1, none⟩) ∧ (∀ w, t.coord.wait w = ⟨1, none⟩) ∧
      (∀ j, t.coord.box j = ⟨none, []⟩) ∧ t.coord.engineOut = [] ∧ t.coord.integrityOut = [] ∧
      (∀ p, (t.disp p).queue = [] ∧ ∀ k, (t.disp p).slot k = ⟨0, .free⟩) ∧
      t.mgmt.params = ⟨0, 2000, 10, 6, 50, 20, 15, 1, 63⟩ ∧ (∀ l : Link, t.mgmt.linkStats[l].counters =
        List.replicate 9 0) ∧ t.mgmt.deviceStats.counters = List.replicate 4 0 ∧ t.mgmt.alerts = [] ∧
      t.mgmt.epoch = 1 ∧ t.mgmt.cause = cause ∧ t.mgmt.faultedCount = 0 ∧ t.mgmt.reset = none ∧
      t.mgmt.grace = none ∧ t.mgmt.lastServed = 3 ∧ t.engineLast = 3 ∧ t.timebase = ⟨0, 0, 0⟩ ∧
      t.patrol = ⟨0, []⟩ ∧ t.pending = s.pending ∧
      ∀ p, (t.port p).state = (if (s.port p).laneReady then .greeting else .waiting) ∧
        (t.port p).laneReady = (s.port p).laneReady ∧ (t.port p).rxBuffer = [] ∧ (t.port p).replay = [] ∧
        (t.port p).seen = false ∧ (t.port p).partnerHeard = false ∧ (t.port p).nextNum = 0 ∧
        (t.port p).sentCount = 0 ∧ (t.port p).expected = 0 ∧ (t.port p).taken = 0 ∧ (t.port p).out = []
    (∃ t, exec .powerOn s = .next t ∧ done .powerOn t) ∧ ∃ t, exec .resetN s = .next t ∧ done .pin t

/-- R171, R173, R174, R177, R180: the management unit takes the oldest report of a block. An object that became
FAULTED raises the faulted count, which drives FAULT_N low, and records faulted, and raises RECORD_FAULTED; a FAULTED
entry freed lowers the count. A link failure is counted and raises LINK_FAILED. An alert of an enabled kind is
appended to a queue of fewer than 8, and dropped and counted at a full one; one of a masked kind is neither queued
nor counted. That a report waits until it is taken is the model's choice (log entry 4). -/
def Obligations.ReportsCountAndRaiseAlerts : Prop :=
  (∀ (s : State) (rest : List Report),
     (∀ h, s.coord.engineOut = .recordFaulted h :: rest → s.mgmt.params.alertMask.testBit 4 = true →
       s.mgmt.alerts.length < 8 → s.mgmt.deviceStats.recordsFaulted < 4294967295 →
       ∃ t, exec (.managementReport .engine) s = .next t ∧
         t.mgmt = { s.mgmt with
           faultedCount := s.mgmt.faultedCount + 1, alerts := s.mgmt.alerts ++ [.recordFaulted h],
           deviceStats := { s.mgmt.deviceStats with recordsFaulted := s.mgmt.deviceStats.recordsFaulted + 1 } } ∧
         t.faultNLow = true ∧ t.coord = { s.coord with engineOut := rest } ∧ t.ports = s.ports ∧ t.disps = s.disps ∧
         t.engineLast = s.engineLast ∧ t.timebase = s.timebase ∧ t.patrol = s.patrol ∧ t.pending = s.pending) ∧
     (s.coord.engineOut = .faultedFreed :: rest →
       ∃ t, exec (.managementReport .engine) s = .next t ∧
         t.mgmt = { s.mgmt with faultedCount := s.mgmt.faultedCount - 1 } ∧
         t.coord = { s.coord with engineOut := rest } ∧ t.ports = s.ports ∧ t.disps = s.disps)) ∧
  (∀ (s : State) (p l : Link) (why : FailReason) (rest : List Report),
     (s.port p).out = .linkFailed l why :: rest → why ≠ .stopped → s.mgmt.linkStats[l].failures < 4294967295 →
     ∃ t, exec (.managementReport (.port p)) s = .next t ∧
       t.port p = { s.port p with out := rest } ∧ portsKeptBut p s t ∧ t.coord = s.coord ∧ t.disps = s.disps ∧
       t.mgmt.linkStats[l].failures = s.mgmt.linkStats[l].failures + 1 ∧ t.mgmt.params = s.mgmt.params ∧
       (s.mgmt.params.alertMask.testBit 1 = false →
         t.mgmt.alerts = s.mgmt.alerts ∧ t.mgmt.deviceStats = s.mgmt.deviceStats) ∧
       (s.mgmt.params.alertMask.testBit 1 = true → s.mgmt.alerts.length < 8 →
         t.mgmt.alerts = s.mgmt.alerts ++ [.linkFailed l why] ∧ t.mgmt.deviceStats = s.mgmt.deviceStats) ∧
       (s.mgmt.params.alertMask.testBit 1 = true → 8 ≤ s.mgmt.alerts.length →
         s.mgmt.deviceStats.alertsDropped < 4294967295 →
         t.mgmt.alerts = s.mgmt.alerts ∧
           t.mgmt.deviceStats.alertsDropped = s.mgmt.deviceStats.alertsDropped + 1))

/-! ### Frames on the lane -/

/-- R142, R187, R188: the bytes of every frame whose message body has at most 48 bytes spell, when they are received
on a lane, the command that delivers exactly that frame. Bytes whose last four are not the check code of the bytes
before them are a rejected frame, and so are bytes that name no kind, whatever their check code. The check code is
read as log entry 25 says. -/
def Obligations.LaneBytesSpellTheirFrame : Prop :=
  (∀ (p : Link) (f : Frame), (∀ num ack limit m, f = .data num ack limit m → m.body.length ≤ 48) →
     laneCommand p (frameBytes f) =
       match f with
       | .data num ack limit m => .receiveData p num ack limit m
       | .idle ack limit => .receiveIdle p ack limit
       | .rewind ack limit n => .receiveRewind p ack limit n
       | .mark ack limit n => .receiveMark p ack limit n
       | .hello h => .receiveHello p h) ∧
  (∀ (p : Link) (body : List Byte) (c : BitVec 32),
     (c ≠ checkCode body → laneCommand p (body ++ checkBytes c) = .rejectedFrame p) ∧
     ∀ b rest, body = b :: rest → (b.toNat % 16 = 0 ∨ 5 < b.toNat % 16) →
       laneCommand p (body ++ checkBytes c) = .rejectedFrame p)

/-- R188, R189: the bodies of the requests as R189 lays them out give their fields back: ACQUIRE and AWAIT with and without
a deadline. -/
def Obligations.RequestBodiesReadAsLaidOut : Prop :=
  ∀ (h : Handle) (mode : Byte) (try_ take : Bool) (threshold : Nat) (d : Nat), threshold < 4294967296 → d < 65536 →
    parseRequest 10 0 (putHandle h ++ [mode, flagBit 0 try_]) = some (.acquire h mode try_ none) ∧
    parseRequest 10 1 (putHandle h ++ [mode, flagBit 0 try_] ++ putU16 d) =
      some (.acquire h mode try_ (some d)) ∧
    parseRequest 19 0 (putHandle h ++ putU32 threshold ++ [flagBit 0 take ||| flagBit 1 try_]) =
      some (.await h threshold take try_ none) ∧
    parseRequest 19 1 (putHandle h ++ putU32 threshold ++ [flagBit 0 take ||| flagBit 1 try_] ++ putU16 d) =
      some (.await h threshold take try_ (some d))

/-! ### The machine as a whole -/

/-- A step takes the command at the front of the queue and runs it, whole, with the rest of the queue. That commands wait
in a queue is the model's choice (log entry 32). -/
def Obligations.StepTakesFrontCommand : Prop :=
  ∀ (c : Instr) (s : State), step { s with pending := c :: s.pending } = exec c s

/-- The model's choice, in log entry 1: with no command waiting a step is one cycle of REFCLK, and the 2500th is a fine
tick (R66). -/
def Obligations.EmptyQueueCountsClockCycles : Prop :=
  ∀ (s : State), s.pending = [] →
    (s.timebase.refclk < 2499 →
      step s = .next { s with timebase := { s.timebase with refclk := s.timebase.refclk + 1 } }) ∧
    (s.timebase.refclk = 2499 → step s = exec (.fineTick []) s)

/-- No command is ever refused, and none ends in a fault: every command answers a next state in every state. That a
command whose event is not due answers the state it was given is the model's choice (log entry 2). -/
def Obligations.EveryCommandCompletes : Prop := ∀ (c : Instr) (s : State), ∃ t, exec c s = .next t

/-- R1, R2, R5, R17, R18, R46, R69, R82, R86, R105, R106: every step keeps the tables sound. Generations stay in 1..255, a
lock's mode agrees with its holders and their number with its capacity, a counter's value stays within its ceiling, a
session's lease within its period, and a notice queue stays a run of SENT notices followed by UNSENT ones. The premise
names the management unit because OPEN takes the default lease from it. -/
def Obligations.TablesStaySound : Prop :=
  ∀ (s t : State), s.coord.Sound → s.mgmt.Sound → step s = .next t → t.coord.Sound

/-- R168, R171, R174, R183, R184: every step keeps the management unit sound: parameters in range, an epoch that is not 0, at
most 8 alerts, counters within 32 bits, and a grace timer exactly while a reset is pending. -/
def Obligations.ManagementStaysSound : Prop := ∀ (s t : State), s.mgmt.Sound → step s = .next t → t.mgmt.Sound

/-- R137, R139, R143, R145, R146, R154, R162: every step keeps every port sound. That a port which is UP has no failure
report of an earlier period outstanding, at the dispatcher, the engine or the notice unit, is the model's choice (log
entry 6). -/
def Obligations.PortsStaySound : Prop :=
  ∀ (s t : State), s.mgmt.Sound → (∀ p, (s.port p).Sound) → step s = .next t → ∀ p, (t.port p).Sound

/-- R120, R132: every step keeps every dispatcher sound: the reply queue holds the occupied slots, each once, and is empty
where the port is not UP and the dispatcher has taken its failure report. -/
def Obligations.DispatchersStaySound : Prop :=
  ∀ (s t : State), (∀ p, (s.disp p).Sound ∧ idlePath (s.port p) (s.disp p)) → step s = .next t →
    ∀ p, (t.disp p).Sound ∧ idlePath (t.port p) (t.disp p)

/-- R128, R129, R135, R153, R186: the state after power-on is sound, and holds what the rules give it. Every object,
session and wait entry is free at generation 1, every notice queue, alert queue, request slot and buffer is empty, every
parameter is at its default and every statistics counter 0. The faulted count is 0 and FAULT_N released, the patrol
position is 0 and the timebase restarted, the epoch is 1 with cause POWER_ON, no reset is pending and no grace timer
runs, and the last served ports are L3. Every port is WAITING, with every count and number 0 and every timer stopped, as
no lane has reported ready (the model's choice, log entry 26). No command is waiting (log entry 32). -/
def Obligations.InitialStateIsSound : Prop :=
  let s := State.reset
  s.Sound ∧
    (∀ i, s.coord.obj i = ⟨1, .free⟩) ∧ (∀ j, s.coord.sess j = ⟨1, none⟩) ∧ (∀ w, s.coord.wait w = ⟨1, none⟩) ∧
    (∀ j, s.coord.box j = ⟨none, []⟩) ∧ s.coord.engineOut = [] ∧ s.coord.integrityOut = [] ∧
    (∀ p, (s.disp p).queue = [] ∧ (s.disp p).freed = [] ∧ (s.disp p).out = [] ∧
      ∀ k, (s.disp p).slot k = ⟨0, .free⟩) ∧
    s.mgmt.params = ⟨0, 2000, 10, 6, 50, 20, 15, 1, 63⟩ ∧
    (∀ l : Link, s.mgmt.linkStats[l].counters = List.replicate 9 0) ∧
    s.mgmt.deviceStats.counters = List.replicate 4 0 ∧ s.mgmt.alerts = [] ∧
    s.mgmt.epoch = 1 ∧ s.mgmt.cause = .powerOn ∧ s.mgmt.faultedCount = 0 ∧ s.faultNLow = false ∧
    s.mgmt.reset = none ∧ s.mgmt.grace = none ∧ s.mgmt.lastServed = 3 ∧ s.engineLast = 3 ∧
    s.timebase = ⟨0, 0, 0⟩ ∧ s.patrol = ⟨0, []⟩ ∧ s.pending = [] ∧
    ∀ p, (s.port p).state = .waiting ∧ (s.port p).laneReady = false ∧
      (s.port p).rxBuffer = [] ∧ (s.port p).replay = [] ∧ (s.port p).seen = false ∧
      (s.port p).partnerHeard = false ∧ (s.port p).nextNum = 0 ∧ (s.port p).sentCount = 0 ∧
      (s.port p).partnerLimit = 0 ∧ (s.port p).expected = 0 ∧ (s.port p).taken = 0 ∧
      (s.port p).greetingTimer = none ∧ (s.port p).helloTimer = none ∧ (s.port p).idleTimer = none ∧
      (s.port p).rewindTimer = none ∧ (s.port p).attempts = 0 ∧ (s.port p).silence = 0 ∧
      (s.port p).silenceDue = false ∧ (s.port p).holdoffTimer = none ∧ (s.port p).out = []

end
end

