-- ==== Sys2Proof/Laws/Tables.lean ====
section
/-! SUPPORT. Reading a fixed-size table after a write or a map, and the lists of indices. -/

namespace Sys2Proof

@[simp] theorem tableSet_get {α : Type} {n : Nat} (v : Vector α n) (i : Fin n) (x : α) (k : Nat) (hk : k < n) :
    (tableSet v i x)[k] = if i.val = k then x else v[k] := by
  simp [tableSet, Vector.getElem_set]

@[simp] theorem tableMap_get {α β : Type} {n : Nat} (f : α → β) (v : Vector α n) (k : Nat) (hk : k < n) :
    (tableMap f v)[k] = f v[k] := by
  unfold tableMap
  rw [Vector.getElem_mk]
  simp

@[simp] theorem mem_indices {n : Nat} (i : Fin n) : i ∈ indices n := by simp [indices]

theorem indices_nodup (n : Nat) : (indices n).Nodup := List.nodup_finRange n

/-- Two tables with the same entries are one. -/
theorem table_ext {α : Type} {n : Nat} {v w : Vector α n} (h : ∀ k : Fin n, v[k] = w[k]) : v = w := by
  apply Vector.ext
  intro i hi
  exact h ⟨i, hi⟩

theorem tableSet_self {α : Type} {n : Nat} (v : Vector α n) (i : Fin n) : tableSet v i v[i] = v := by
  apply Vector.ext
  intro k hk
  simp only [tableSet_get, Fin.getElem_fin]
  split
  · rename_i h; subst h; rfl
  · rfl

theorem tableSet_twice {α : Type} {n : Nat} (v : Vector α n) (i : Fin n) (x y : α) :
    tableSet (tableSet v i x) i y = tableSet v i y := by
  apply Vector.ext
  intro k hk
  simp only [tableSet_get]
  split <;> rfl

end Sys2Proof
end

