-- ==== Sys2Proof/Laws/Handles.lean ====
section
/-! SUPPORT. The handle of an entry indexes that entry, generations never become 0, and a scan for the first FREE entry
finds the lowest. -/

namespace Sys2Proof.Machine

@[simp] theorem sessHandle_sessIx (j : SessIx) (g : Byte) : (Machine.sessHandle j g).sessIx? = some j := by
  have hj := j.isLt
  have h : (BitVec.ofNat 8 (j.val + 1)).toNat = j.val + 1 := by
    rw [BitVec.toNat_ofNat]; omega
  unfold Machine.sessHandle mkHandle Handle.sessIx?
  rw [dif_pos (by show 1 ≤ (BitVec.ofNat 8 (j.val + 1)).toNat ∧ (BitVec.ofNat 8 (j.val + 1)).toNat ≤ 32; omega)]
  congr 1
  ext
  show (BitVec.ofNat 8 (j.val + 1)).toNat - 1 = j.val
  omega

@[simp] theorem objHandle_objIx (i : ObjIx) (g : Byte) : (Machine.objHandle i g).objIx = i := by
  have hi := i.isLt
  ext
  show (BitVec.ofNat 8 i.val).toNat = i.val
  rw [BitVec.toNat_ofNat]; omega

@[simp] theorem waitHandle_waitIx (w : WaitIx) (g : Byte) : (Machine.waitHandle w g).waitIx? = some w := by
  have hw := w.isLt
  have h : (BitVec.ofNat 8 w.val).toNat = w.val := by
    rw [BitVec.toNat_ofNat]; omega
  unfold Machine.waitHandle mkHandle Handle.waitIx?
  rw [dif_pos (by show (BitVec.ofNat 8 w.val).toNat < 128; omega)]
  congr 1
  ext
  exact h

@[simp] theorem sessHandle_gen (j : SessIx) (g : Byte) : (Machine.sessHandle j g).gen = g := rfl
@[simp] theorem objHandle_gen (i : ObjIx) (g : Byte) : (Machine.objHandle i g).gen = g := rfl
@[simp] theorem waitHandle_gen (w : WaitIx) (g : Byte) : (Machine.waitHandle w g).gen = g := rfl

theorem advanceGen_ne_zero (g : Byte) : advanceGen g ≠ 0 := by
  unfold advanceGen
  split <;> bv_omega

theorem advanceEpoch_ne_zero (e : BitVec 16) : advanceEpoch e ≠ 0 := by
  unfold advanceEpoch
  split <;> bv_omega

theorem saturate_le (n : Nat) (h : n ≤ Config.maxU32) : saturate n ≤ Config.maxU32 := by
  unfold saturate
  split <;> omega

theorem advanceSerial_range (n : Nat) (h : n ≤ Config.maxU32) :
    1 ≤ advanceSerial n ∧ advanceSerial n ≤ Config.maxU32 := by
  have : Config.maxU32 = 4294967295 := rfl
  unfold advanceSerial
  split <;> omega

/-- The scan of a table stops at the lowest index that passes. -/
theorem find_lowest {n : Nat} (f : Fin n → Bool) (j : Fin n) (hj : f j = true) (hk : ∀ k, k < j → f k = false) :
    (indices n).find? f = some j := by
  have hs : (indices n).Pairwise (· < ·) := by simpa [indices] using List.pairwise_lt_finRange n
  rw [List.find?_eq_some_iff_append]
  obtain ⟨a, b, hab⟩ := List.append_of_mem (mem_indices j)
  refine ⟨hj, a, b, hab, ?_⟩
  intro k hka
  have hlt : k < j := by
    rw [hab, List.pairwise_append] at hs
    exact hs.2.2 k hka j (by simp)
  simp [hk k hlt]

end Sys2Proof.Machine
end

