-- ==== Sys2Proof/Laws/State.lean ====
section
/-! SUPPORT. One lemma for each field and each update of the state, and the reading of one entry after the writing of
another. -/

namespace Sys2Proof.Machine

/-! ### The state -/

@[simp] theorem State.setPort_coord (s : State) (p : Link) (x : Port) :
    (s.setPort p x).coord = s.coord := rfl
@[simp] theorem State.setPort_ports (s : State) (p : Link) (x : Port) :
    (s.setPort p x).ports = tableSet s.ports p x := rfl
@[simp] theorem State.setPort_disps (s : State) (p : Link) (x : Port) :
    (s.setPort p x).disps = s.disps := rfl
@[simp] theorem State.setPort_mgmt (s : State) (p : Link) (x : Port) :
    (s.setPort p x).mgmt = s.mgmt := rfl
@[simp] theorem State.setPort_engineLast (s : State) (p : Link) (x : Port) :
    (s.setPort p x).engineLast = s.engineLast := rfl
@[simp] theorem State.setPort_timebase (s : State) (p : Link) (x : Port) :
    (s.setPort p x).timebase = s.timebase := rfl
@[simp] theorem State.setPort_patrol (s : State) (p : Link) (x : Port) :
    (s.setPort p x).patrol = s.patrol := rfl
@[simp] theorem State.setPort_pending (s : State) (p : Link) (x : Port) :
    (s.setPort p x).pending = s.pending := rfl

@[simp] theorem State.modPort_coord (s : State) (p : Link) (f : Port → Port) :
    (s.modPort p f).coord = s.coord := rfl
@[simp] theorem State.modPort_ports (s : State) (p : Link) (f : Port → Port) :
    (s.modPort p f).ports = tableSet s.ports p (f (s.port p)) := rfl
@[simp] theorem State.modPort_disps (s : State) (p : Link) (f : Port → Port) :
    (s.modPort p f).disps = s.disps := rfl
@[simp] theorem State.modPort_mgmt (s : State) (p : Link) (f : Port → Port) :
    (s.modPort p f).mgmt = s.mgmt := rfl
@[simp] theorem State.modPort_engineLast (s : State) (p : Link) (f : Port → Port) :
    (s.modPort p f).engineLast = s.engineLast := rfl
@[simp] theorem State.modPort_timebase (s : State) (p : Link) (f : Port → Port) :
    (s.modPort p f).timebase = s.timebase := rfl
@[simp] theorem State.modPort_patrol (s : State) (p : Link) (f : Port → Port) :
    (s.modPort p f).patrol = s.patrol := rfl
@[simp] theorem State.modPort_pending (s : State) (p : Link) (f : Port → Port) :
    (s.modPort p f).pending = s.pending := rfl

@[simp] theorem State.setDisp_coord (s : State) (p : Link) (d : Dispatcher) :
    (s.setDisp p d).coord = s.coord := rfl
@[simp] theorem State.setDisp_ports (s : State) (p : Link) (d : Dispatcher) :
    (s.setDisp p d).ports = s.ports := rfl
@[simp] theorem State.setDisp_disps (s : State) (p : Link) (d : Dispatcher) :
    (s.setDisp p d).disps = tableSet s.disps p d := rfl
@[simp] theorem State.setDisp_mgmt (s : State) (p : Link) (d : Dispatcher) :
    (s.setDisp p d).mgmt = s.mgmt := rfl
@[simp] theorem State.setDisp_engineLast (s : State) (p : Link) (d : Dispatcher) :
    (s.setDisp p d).engineLast = s.engineLast := rfl
@[simp] theorem State.setDisp_timebase (s : State) (p : Link) (d : Dispatcher) :
    (s.setDisp p d).timebase = s.timebase := rfl
@[simp] theorem State.setDisp_patrol (s : State) (p : Link) (d : Dispatcher) :
    (s.setDisp p d).patrol = s.patrol := rfl
@[simp] theorem State.setDisp_pending (s : State) (p : Link) (d : Dispatcher) :
    (s.setDisp p d).pending = s.pending := rfl

@[simp] theorem State.modDisp_coord (s : State) (p : Link) (f : Dispatcher → Dispatcher) :
    (s.modDisp p f).coord = s.coord := rfl
@[simp] theorem State.modDisp_ports (s : State) (p : Link) (f : Dispatcher → Dispatcher) :
    (s.modDisp p f).ports = s.ports := rfl
@[simp] theorem State.modDisp_disps (s : State) (p : Link) (f : Dispatcher → Dispatcher) :
    (s.modDisp p f).disps = tableSet s.disps p (f (s.disp p)) := rfl
@[simp] theorem State.modDisp_mgmt (s : State) (p : Link) (f : Dispatcher → Dispatcher) :
    (s.modDisp p f).mgmt = s.mgmt := rfl
@[simp] theorem State.modDisp_engineLast (s : State) (p : Link) (f : Dispatcher → Dispatcher) :
    (s.modDisp p f).engineLast = s.engineLast := rfl
@[simp] theorem State.modDisp_timebase (s : State) (p : Link) (f : Dispatcher → Dispatcher) :
    (s.modDisp p f).timebase = s.timebase := rfl
@[simp] theorem State.modDisp_patrol (s : State) (p : Link) (f : Dispatcher → Dispatcher) :
    (s.modDisp p f).patrol = s.patrol := rfl
@[simp] theorem State.modDisp_pending (s : State) (p : Link) (f : Dispatcher → Dispatcher) :
    (s.modDisp p f).pending = s.pending := rfl

@[simp] theorem State.setCoord_coord (s : State) (c : Coord) :
    (s.setCoord c).coord = c := rfl
@[simp] theorem State.setCoord_ports (s : State) (c : Coord) :
    (s.setCoord c).ports = s.ports := rfl
@[simp] theorem State.setCoord_disps (s : State) (c : Coord) :
    (s.setCoord c).disps = s.disps := rfl
@[simp] theorem State.setCoord_mgmt (s : State) (c : Coord) :
    (s.setCoord c).mgmt = s.mgmt := rfl
@[simp] theorem State.setCoord_engineLast (s : State) (c : Coord) :
    (s.setCoord c).engineLast = s.engineLast := rfl
@[simp] theorem State.setCoord_timebase (s : State) (c : Coord) :
    (s.setCoord c).timebase = s.timebase := rfl
@[simp] theorem State.setCoord_patrol (s : State) (c : Coord) :
    (s.setCoord c).patrol = s.patrol := rfl
@[simp] theorem State.setCoord_pending (s : State) (c : Coord) :
    (s.setCoord c).pending = s.pending := rfl

@[simp] theorem State.setMgmt_coord (s : State) (m : Mgmt) :
    (s.setMgmt m).coord = s.coord := rfl
@[simp] theorem State.setMgmt_ports (s : State) (m : Mgmt) :
    (s.setMgmt m).ports = s.ports := rfl
@[simp] theorem State.setMgmt_disps (s : State) (m : Mgmt) :
    (s.setMgmt m).disps = s.disps := rfl
@[simp] theorem State.setMgmt_mgmt (s : State) (m : Mgmt) :
    (s.setMgmt m).mgmt = m := rfl
@[simp] theorem State.setMgmt_engineLast (s : State) (m : Mgmt) :
    (s.setMgmt m).engineLast = s.engineLast := rfl
@[simp] theorem State.setMgmt_timebase (s : State) (m : Mgmt) :
    (s.setMgmt m).timebase = s.timebase := rfl
@[simp] theorem State.setMgmt_patrol (s : State) (m : Mgmt) :
    (s.setMgmt m).patrol = s.patrol := rfl
@[simp] theorem State.setMgmt_pending (s : State) (m : Mgmt) :
    (s.setMgmt m).pending = s.pending := rfl

/-! ### One port, one dispatcher -/

@[simp] theorem State.port_setPort (s : State) (p q : Link) (x : Port) :
    (s.setPort p x).port q = if p = q then x else s.port q := by
  simp [State.port, State.setPort, Fin.ext_iff]

@[simp] theorem State.port_modPort (s : State) (p q : Link) (f : Port → Port) :
    (s.modPort p f).port q = if p = q then f (s.port p) else s.port q := by
  simp [State.modPort]

@[simp] theorem State.disp_setDisp (s : State) (p q : Link) (d : Dispatcher) :
    (s.setDisp p d).disp q = if p = q then d else s.disp q := by
  simp [State.disp, State.setDisp, Fin.ext_iff]

@[simp] theorem State.disp_modDisp (s : State) (p q : Link) (f : Dispatcher → Dispatcher) :
    (s.modDisp p f).disp q = if p = q then f (s.disp p) else s.disp q := by
  simp [State.modDisp]

@[simp] theorem State.disp_setPort (s : State) (p q : Link) (x : Port) : (s.setPort p x).disp q = s.disp q := rfl
@[simp] theorem State.disp_modPort (s : State) (p q : Link) (f : Port → Port) : (s.modPort p f).disp q = s.disp q := rfl
@[simp] theorem State.port_setDisp (s : State) (p q : Link) (d : Dispatcher) : (s.setDisp p d).port q = s.port q := rfl
@[simp] theorem State.port_modDisp (s : State) (p q : Link) (f : Dispatcher → Dispatcher) :
    (s.modDisp p f).port q = s.port q := rfl
@[simp] theorem State.port_setCoord (s : State) (c : Coord) (q : Link) : (s.setCoord c).port q = s.port q := rfl
@[simp] theorem State.disp_setCoord (s : State) (c : Coord) (q : Link) : (s.setCoord c).disp q = s.disp q := rfl
@[simp] theorem State.port_setMgmt (s : State) (m : Mgmt) (q : Link) : (s.setMgmt m).port q = s.port q := rfl
@[simp] theorem State.disp_setMgmt (s : State) (m : Mgmt) (q : Link) : (s.setMgmt m).disp q = s.disp q := rfl

/-! ### The dispatcher -/

@[simp] theorem Dispatcher.slot_setSlot (d : Dispatcher) (k m : SlotIx) (x : Slot) :
    (d.setSlot k x).slot m = if k = m then x else d.slot m := by
  simp [Dispatcher.slot, Dispatcher.setSlot, Fin.ext_iff]

@[simp] theorem Dispatcher.setSlot_slots (d : Dispatcher) (k : SlotIx) (x : Slot) : (d.setSlot k x).slots = tableSet d.slots k x := rfl
@[simp] theorem Dispatcher.setSlot_queue (d : Dispatcher) (k : SlotIx) (x : Slot) : (d.setSlot k x).queue = d.queue := rfl
@[simp] theorem Dispatcher.setSlot_freed (d : Dispatcher) (k : SlotIx) (x : Slot) : (d.setSlot k x).freed = d.freed := rfl
@[simp] theorem Dispatcher.setSlot_out (d : Dispatcher) (k : SlotIx) (x : Slot) : (d.setSlot k x).out = d.out := rfl

/-! ### The tables -/

@[simp] theorem Coord.setObj_objects (c : Coord) (i : ObjIx) (e : ObjEntry) : (c.setObj i e).objects = tableSet c.objects i e := rfl
@[simp] theorem Coord.setObj_sessions (c : Coord) (i : ObjIx) (e : ObjEntry) : (c.setObj i e).sessions = c.sessions := rfl
@[simp] theorem Coord.setObj_waits (c : Coord) (i : ObjIx) (e : ObjEntry) : (c.setObj i e).waits = c.waits := rfl
@[simp] theorem Coord.setObj_boxes (c : Coord) (i : ObjIx) (e : ObjEntry) : (c.setObj i e).boxes = c.boxes := rfl
@[simp] theorem Coord.setObj_engineOut (c : Coord) (i : ObjIx) (e : ObjEntry) : (c.setObj i e).engineOut = c.engineOut := rfl
@[simp] theorem Coord.setObj_integrityOut (c : Coord) (i : ObjIx) (e : ObjEntry) : (c.setObj i e).integrityOut = c.integrityOut := rfl

@[simp] theorem Coord.setSess_objects (c : Coord) (j : SessIx) (e : SessEntry) : (c.setSess j e).objects = c.objects := rfl
@[simp] theorem Coord.setSess_sessions (c : Coord) (j : SessIx) (e : SessEntry) : (c.setSess j e).sessions = tableSet c.sessions j e := rfl
@[simp] theorem Coord.setSess_waits (c : Coord) (j : SessIx) (e : SessEntry) : (c.setSess j e).waits = c.waits := rfl
@[simp] theorem Coord.setSess_boxes (c : Coord) (j : SessIx) (e : SessEntry) : (c.setSess j e).boxes = c.boxes := rfl
@[simp] theorem Coord.setSess_engineOut (c : Coord) (j : SessIx) (e : SessEntry) : (c.setSess j e).engineOut = c.engineOut := rfl
@[simp] theorem Coord.setSess_integrityOut (c : Coord) (j : SessIx) (e : SessEntry) : (c.setSess j e).integrityOut = c.integrityOut := rfl

@[simp] theorem Coord.setWait_objects (c : Coord) (w : WaitIx) (e : WaitEntry) : (c.setWait w e).objects = c.objects := rfl
@[simp] theorem Coord.setWait_sessions (c : Coord) (w : WaitIx) (e : WaitEntry) : (c.setWait w e).sessions = c.sessions := rfl
@[simp] theorem Coord.setWait_waits (c : Coord) (w : WaitIx) (e : WaitEntry) : (c.setWait w e).waits = tableSet c.waits w e := rfl
@[simp] theorem Coord.setWait_boxes (c : Coord) (w : WaitIx) (e : WaitEntry) : (c.setWait w e).boxes = c.boxes := rfl
@[simp] theorem Coord.setWait_engineOut (c : Coord) (w : WaitIx) (e : WaitEntry) : (c.setWait w e).engineOut = c.engineOut := rfl
@[simp] theorem Coord.setWait_integrityOut (c : Coord) (w : WaitIx) (e : WaitEntry) : (c.setWait w e).integrityOut = c.integrityOut := rfl

@[simp] theorem Coord.setBox_objects (c : Coord) (j : SessIx) (b : NoticeBox) : (c.setBox j b).objects = c.objects := rfl
@[simp] theorem Coord.setBox_sessions (c : Coord) (j : SessIx) (b : NoticeBox) : (c.setBox j b).sessions = c.sessions := rfl
@[simp] theorem Coord.setBox_waits (c : Coord) (j : SessIx) (b : NoticeBox) : (c.setBox j b).waits = c.waits := rfl
@[simp] theorem Coord.setBox_boxes (c : Coord) (j : SessIx) (b : NoticeBox) : (c.setBox j b).boxes = tableSet c.boxes j b := rfl
@[simp] theorem Coord.setBox_engineOut (c : Coord) (j : SessIx) (b : NoticeBox) : (c.setBox j b).engineOut = c.engineOut := rfl
@[simp] theorem Coord.setBox_integrityOut (c : Coord) (j : SessIx) (b : NoticeBox) : (c.setBox j b).integrityOut = c.integrityOut := rfl

@[simp] theorem Coord.report_objects (c : Coord) (r : Report) : (c.report r).objects = c.objects := rfl
@[simp] theorem Coord.report_sessions (c : Coord) (r : Report) : (c.report r).sessions = c.sessions := rfl
@[simp] theorem Coord.report_waits (c : Coord) (r : Report) : (c.report r).waits = c.waits := rfl
@[simp] theorem Coord.report_boxes (c : Coord) (r : Report) : (c.report r).boxes = c.boxes := rfl
@[simp] theorem Coord.report_engineOut (c : Coord) (r : Report) : (c.report r).engineOut = c.engineOut ++ [r] := rfl
@[simp] theorem Coord.report_integrityOut (c : Coord) (r : Report) : (c.report r).integrityOut = c.integrityOut := rfl

@[simp] theorem Coord.reportCorrected_objects (c : Coord)  : (c.reportCorrected).objects = c.objects := rfl
@[simp] theorem Coord.reportCorrected_sessions (c : Coord)  : (c.reportCorrected).sessions = c.sessions := rfl
@[simp] theorem Coord.reportCorrected_waits (c : Coord)  : (c.reportCorrected).waits = c.waits := rfl
@[simp] theorem Coord.reportCorrected_boxes (c : Coord)  : (c.reportCorrected).boxes = c.boxes := rfl
@[simp] theorem Coord.reportCorrected_engineOut (c : Coord)  : (c.reportCorrected).engineOut = c.engineOut := rfl
@[simp] theorem Coord.reportCorrected_integrityOut (c : Coord)  : (c.reportCorrected).integrityOut = c.integrityOut ++ [.recordCorrected] := rfl

/-! ### One entry of a table -/

@[simp] theorem Coord.obj_setObj (c : Coord) (i : ObjIx) (e : ObjEntry) (k : ObjIx) :
    (c.setObj i e).obj k = if i = k then e else c.obj k := by
  simp [Coord.obj, Coord.setObj, Fin.ext_iff]
@[simp] theorem Coord.sess_setObj (c : Coord) (i : ObjIx) (e : ObjEntry) (k : SessIx) : (c.setObj i e).sess k = c.sess k := rfl
@[simp] theorem Coord.wait_setObj (c : Coord) (i : ObjIx) (e : ObjEntry) (k : WaitIx) : (c.setObj i e).wait k = c.wait k := rfl
@[simp] theorem Coord.box_setObj (c : Coord) (i : ObjIx) (e : ObjEntry) (k : SessIx) : (c.setObj i e).box k = c.box k := rfl

@[simp] theorem Coord.obj_setSess (c : Coord) (j : SessIx) (e : SessEntry) (k : ObjIx) : (c.setSess j e).obj k = c.obj k := rfl
@[simp] theorem Coord.sess_setSess (c : Coord) (j : SessIx) (e : SessEntry) (k : SessIx) :
    (c.setSess j e).sess k = if j = k then e else c.sess k := by
  simp [Coord.sess, Coord.setSess, Fin.ext_iff]
@[simp] theorem Coord.wait_setSess (c : Coord) (j : SessIx) (e : SessEntry) (k : WaitIx) : (c.setSess j e).wait k = c.wait k := rfl
@[simp] theorem Coord.box_setSess (c : Coord) (j : SessIx) (e : SessEntry) (k : SessIx) : (c.setSess j e).box k = c.box k := rfl

@[simp] theorem Coord.obj_setWait (c : Coord) (w : WaitIx) (e : WaitEntry) (k : ObjIx) : (c.setWait w e).obj k = c.obj k := rfl
@[simp] theorem Coord.sess_setWait (c : Coord) (w : WaitIx) (e : WaitEntry) (k : SessIx) : (c.setWait w e).sess k = c.sess k := rfl
@[simp] theorem Coord.wait_setWait (c : Coord) (w : WaitIx) (e : WaitEntry) (k : WaitIx) :
    (c.setWait w e).wait k = if w = k then e else c.wait k := by
  simp [Coord.wait, Coord.setWait, Fin.ext_iff]
@[simp] theorem Coord.box_setWait (c : Coord) (w : WaitIx) (e : WaitEntry) (k : SessIx) : (c.setWait w e).box k = c.box k := rfl

@[simp] theorem Coord.obj_setBox (c : Coord) (j : SessIx) (b : NoticeBox) (k : ObjIx) : (c.setBox j b).obj k = c.obj k := rfl
@[simp] theorem Coord.sess_setBox (c : Coord) (j : SessIx) (b : NoticeBox) (k : SessIx) : (c.setBox j b).sess k = c.sess k := rfl
@[simp] theorem Coord.wait_setBox (c : Coord) (j : SessIx) (b : NoticeBox) (k : WaitIx) : (c.setBox j b).wait k = c.wait k := rfl
@[simp] theorem Coord.box_setBox (c : Coord) (j : SessIx) (b : NoticeBox) (k : SessIx) :
    (c.setBox j b).box k = if j = k then b else c.box k := by
  simp [Coord.box, Coord.setBox, Fin.ext_iff]

@[simp] theorem Coord.obj_report (c : Coord) (r : Report) (k : ObjIx) : (c.report r).obj k = c.obj k := rfl
@[simp] theorem Coord.obj_reportCorrected (c : Coord) (k : ObjIx) : c.reportCorrected.obj k = c.obj k := rfl
@[simp] theorem Coord.sess_report (c : Coord) (r : Report) (k : SessIx) : (c.report r).sess k = c.sess k := rfl
@[simp] theorem Coord.sess_reportCorrected (c : Coord) (k : SessIx) : c.reportCorrected.sess k = c.sess k := rfl
@[simp] theorem Coord.wait_report (c : Coord) (r : Report) (k : WaitIx) : (c.report r).wait k = c.wait k := rfl
@[simp] theorem Coord.wait_reportCorrected (c : Coord) (k : WaitIx) : c.reportCorrected.wait k = c.wait k := rfl
@[simp] theorem Coord.box_report (c : Coord) (r : Report) (k : SessIx) : (c.report r).box k = c.box k := rfl
@[simp] theorem Coord.box_reportCorrected (c : Coord) (k : SessIx) : c.reportCorrected.box k = c.box k := rfl

end Sys2Proof.Machine
end

