-- ==== Sys2Proof/Laws/Path.lean ====
section
/-! SUPPORT. What the running of a request does, once for every request: its reply, its frame, and the renewal of its
session. -/

namespace Sys2Proof.Machine

/-! ### Sessions -/

theorem Coord.setSessRecord_sess (c : Coord) (j k : SessIx) (r : SessRecord) :
    (c.setSessRecord j r).sess k =
      if j = k then ⟨(c.sess k).gen, (c.sess k).body.map fun b => { b with record := r, health := .clean }⟩
      else c.sess k := by
  unfold Coord.setSessRecord
  cases h : (c.sess j).body with
  | none =>
    simp only
    split
    · rename_i e; subst e; rw [h]; cases hc : c.sess j; rw [hc] at h; simp_all
    · rfl
  | some b =>
    simp only [Coord.sess_setSess]
    split
    · rename_i e; subst e; simp [h]
    · rfl

@[simp] theorem Coord.setSessRecord_objects (c : Coord) (j : SessIx) (r : SessRecord) :
    (c.setSessRecord j r).objects = c.objects := by unfold Coord.setSessRecord; split <;> rfl
@[simp] theorem Coord.setSessRecord_waits (c : Coord) (j : SessIx) (r : SessRecord) :
    (c.setSessRecord j r).waits = c.waits := by unfold Coord.setSessRecord; split <;> rfl
@[simp] theorem Coord.setSessRecord_boxes (c : Coord) (j : SessIx) (r : SessRecord) :
    (c.setSessRecord j r).boxes = c.boxes := by unfold Coord.setSessRecord; split <;> rfl
@[simp] theorem Coord.setSessRecord_engineOut (c : Coord) (j : SessIx) (r : SessRecord) :
    (c.setSessRecord j r).engineOut = c.engineOut := by unfold Coord.setSessRecord; split <;> rfl
@[simp] theorem Coord.setSessRecord_integrityOut (c : Coord) (j : SessIx) (r : SessRecord) :
    (c.setSessRecord j r).integrityOut = c.integrityOut := by unfold Coord.setSessRecord; split <;> rfl

@[simp] theorem Coord.setSessRecord_obj (c : Coord) (j : SessIx) (r : SessRecord) (i : ObjIx) :
    (c.setSessRecord j r).obj i = c.obj i := by simp [Coord.obj]
@[simp] theorem Coord.setSessRecord_wait (c : Coord) (j : SessIx) (r : SessRecord) (w : WaitIx) :
    (c.setSessRecord j r).wait w = c.wait w := by simp [Coord.wait]
@[simp] theorem Coord.setSessRecord_box (c : Coord) (j : SessIx) (r : SessRecord) (k : SessIx) :
    (c.setSessRecord j r).box k = c.box k := by simp [Coord.box]

/-- Reading a sound record changes nothing and answers the record. -/
theorem readSess_clean (H : Handler) (j : SessIx) (c : Coord) (b : SessCurrent) (hb : (c.sess j).body = some b)
    (hc : b.health = .clean) : readSess H j c = (some b.record, c) := by
  unfold readSess; simp [hb, hc]

/-- Reading a sound object record changes nothing and answers the record. -/
theorem readObj_clean (H : Handler) (i : ObjIx) (c : Coord) (r : ObjRecord) (hb : (c.obj i).body = .live r .clean) :
    readObj H i c = (some r, c) := by
  unfold readObj; simp [hb]

/-! ### Taking and finishing a request -/

/-- An engine command runs the request it is offered, if that is of its kind. -/
theorem engineRequest_runs (p : Link) (kind : Request → Option EngineBody) (s : State) (r : Presented)
    (body : EngineBody) (h : engineTakes s p r) (hk : kind r.request = some body) :
    engineRequest p kind s = .next (runEngine r body s) := by
  obtain ⟨h1, h2⟩ := h
  unfold engineRequest
  simp [h1, h2, hk]

/-- A management command runs the request it is offered, if that is of its kind and from the management link where it
must be. -/
theorem mgmtRequest_runs (p : Link) (kind : Request → Option (MgmtBody × (State → ReplyBody))) (s : State)
    (r : Presented) (body : MgmtBody) (refused : State → ReplyBody) (h : mgmtTakes s p r)
    (hk : kind r.request = some (body, refused)) :
    mgmtRequest p kind s = .next (finishRequest r
      (body (requestContext r s) (s.setMgmt { s.mgmt with lastServed := r.link })).1
      (body (requestContext r s) (s.setMgmt { s.mgmt with lastServed := r.link })).2) := by
  obtain ⟨h1, rfl, h3⟩ := h
  unfold mgmtRequest
  simp only [h1, if_true, hk]
  unfold runMgmt
  have hn : (r.request.needsMgmtLink && r.link.val != s.mgmt.params.mgmtLink) = false := by
    cases hm : r.request.needsMgmtLink
    · rfl
    · simp [h3 hm]
  simp only [State.setMgmt_mgmt, hn]
  rfl

theorem runEngine_eq (r : Presented) (body : EngineBody) (s : State) :
    runEngine r body s = finishRequest r (body (requestContext r s) s.coord).1
      { s with coord := (body (requestContext r s) s.coord).2, engineLast := r.link } := rfl

@[simp] theorem finishRequest_coord (r : Presented) (b : ReplyBody) (s : State) :
    (finishRequest r b s).coord = s.coord := rfl
@[simp] theorem finishRequest_ports (r : Presented) (b : ReplyBody) (s : State) :
    (finishRequest r b s).ports = s.ports := rfl
@[simp] theorem finishRequest_mgmt (r : Presented) (b : ReplyBody) (s : State) :
    (finishRequest r b s).mgmt = s.mgmt := rfl
@[simp] theorem finishRequest_engineLast (r : Presented) (b : ReplyBody) (s : State) :
    (finishRequest r b s).engineLast = s.engineLast := rfl
@[simp] theorem finishRequest_timebase (r : Presented) (b : ReplyBody) (s : State) :
    (finishRequest r b s).timebase = s.timebase := rfl
@[simp] theorem finishRequest_patrol (r : Presented) (b : ReplyBody) (s : State) :
    (finishRequest r b s).patrol = s.patrol := rfl
@[simp] theorem finishRequest_pending (r : Presented) (b : ReplyBody) (s : State) :
    (finishRequest r b s).pending = s.pending := rfl

/-- The reply stands in the request's slot. -/
theorem finishRequest_answered (r : Presented) (b : ReplyBody) (s : State) : answered r b (finishRequest r b s) := by
  simp [answered, finishRequest]

/-- Finishing a request changes its slot alone among the dispatchers. -/
theorem finishRequest_kept (r : Presented) (b : ReplyBody) (s u : State) (h : u.disps = s.disps) :
    dispatchersKept r s (finishRequest r b u) := by
  have hd : ∀ q, u.disp q = s.disp q := fun q => by simp [State.disp, h]
  refine ⟨?_, ?_, ?_, ?_, ?_, ?_⟩
  · intro q hq
    simp [finishRequest, Ne.symm hq, hd]
  all_goals simp +contextual [finishRequest, hd, eq_comm]

/-- The frame of every engine request. -/
theorem runEngine_frame (r : Presented) (body : EngineBody) (s : State) : engineFrame r s (runEngine r body s) := by
  rw [runEngine_eq]
  exact ⟨rfl, rfl, rfl, rfl, rfl, rfl, finishRequest_kept r _ s _ rfl⟩

/-- A session request whose session is served runs its own rule after the renewal (R85). -/
theorem sessionRequest_runs (resume : Bool) (body : SessIx → RequestContext → Coord → ReplyBody × Coord)
    (ctx : RequestContext) (c : Coord) (j : SessIx) (b : SessCurrent)
    (hj : sessionCheck resume ctx.header.session ctx.link c = .ok j) (hb : (c.sess j).body = some b)
    (hc : b.health = .clean) :
    sessionRequest resume body ctx c = body j ctx (c.setSessRecord j b.record.renewed) := by
  unfold sessionRequest
  simp only [hj]
  unfold renewLease
  rw [readSess_clean handler j c b hb hc]
  rfl

/-- The state after the engine has run a request with a given outcome: its reply and the tables it leaves. -/
def engineAfter (r : Presented) (out : ReplyBody × Coord) (s : State) : State :=
  finishRequest r out.1 { s with coord := out.2, engineLast := r.link }

@[simp] theorem engineAfter_coord (r : Presented) (out : ReplyBody × Coord) (s : State) :
    (engineAfter r out s).coord = out.2 := rfl

theorem engineAfter_frame (r : Presented) (out : ReplyBody × Coord) (s : State) :
    engineFrame r s (engineAfter r out s) :=
  ⟨rfl, rfl, rfl, rfl, rfl, rfl, finishRequest_kept r _ s _ rfl⟩

theorem engineAfter_answered (r : Presented) (out : ReplyBody × Coord) (s : State) :
    answered r out.1 (engineAfter r out s) := finishRequest_answered _ _ _

/-- The state after the management unit has run a request with a given outcome. -/
def mgmtAfter (r : Presented) (body : MgmtBody) (s : State) : State :=
  finishRequest r
    (body (requestContext r s) (s.setMgmt { s.mgmt with lastServed := r.link })).1
    (body (requestContext r s) (s.setMgmt { s.mgmt with lastServed := r.link })).2

/-- An engine command on a session request whose session is served. -/
theorem engineRequest_session (p : Link) (kind : Request → Option EngineBody) (s : State) (r : Presented)
    (resume : Bool) (body : SessIx → RequestContext → Coord → ReplyBody × Coord) (j : SessIx) (x : SessRecord)
    (h : engineTakes s p r) (hs : sessionServed s r j x) (hr : (r.request == .resume) = resume)
    (hk : kind r.request = some (sessionRequest resume body)) :
    engineRequest p kind s =
      .next (engineAfter r (body j (requestContext r s) (s.coord.setSessRecord j x.renewed)) s) := by
  obtain ⟨hj, b, hb, rfl, hc⟩ := hs
  rw [hr] at hj
  rw [engineRequest_runs p kind s r _ h hk, runEngine_eq,
    sessionRequest_runs resume body (requestContext r s) s.coord j b hj hb hc]
  rfl

end Sys2Proof.Machine
end

