-- ==== Sys2Proof/Laws/Entries.lean ====
section
/-! SUPPORT. What the writing of a record does, as a write of its entry, and what it leaves of the other tables. -/

namespace Sys2Proof.Machine

/-! ### Object records -/

theorem Coord.setObjBody_eq (c : Coord) (i : ObjIx) (b : ObjBody) :
    c.setObjBody i b = c.setObj i ⟨(c.obj i).gen, b⟩ := rfl

theorem Coord.freeObj_eq (c : Coord) (i : ObjIx) : c.freeObj i = c.setObj i ⟨advanceGen (c.obj i).gen, .free⟩ := rfl

theorem Coord.record?_live (c : Coord) (i : ObjIx) (r : ObjRecord) (h : Health) (hb : (c.obj i).body = .live r h) :
    c.record? i = some r := by simp [Coord.record?, hb, ObjBody.record?]

theorem Coord.setKind_live (c : Coord) (i : ObjIx) (k : ObjKind) (r : ObjRecord) (h : Health)
    (hb : (c.obj i).body = .live r h) :
    c.setKind i k = c.setObj i ⟨(c.obj i).gen, .live { r with kind := k } .clean⟩ := by
  unfold Coord.setKind
  rw [c.record?_live i r h hb]
  rfl

theorem Coord.setLock_live (c : Coord) (i : ObjIx) (l : LockRecord) (r : ObjRecord) (h : Health)
    (hb : (c.obj i).body = .live r h) :
    c.setLock i l = c.setObj i ⟨(c.obj i).gen, .live { r with kind := .lock l } .clean⟩ :=
  c.setKind_live i (.lock l) r h hb

theorem Coord.setCounter_live (c : Coord) (i : ObjIx) (k : CounterRecord) (r : ObjRecord) (h : Health)
    (hb : (c.obj i).body = .live r h) :
    c.setCounter i k = c.setObj i ⟨(c.obj i).gen, .live { r with kind := .counter k } .clean⟩ :=
  c.setKind_live i (.counter k) r h hb

theorem Coord.lock?_live (c : Coord) (i : ObjIx) (name : List Byte) (l : LockRecord) (h : Health)
    (hb : (c.obj i).body = .live ⟨name, .lock l⟩ h) : c.lock? i = some l := by
  simp [Coord.lock?, c.record?_live i _ h hb]

theorem Coord.counter?_live (c : Coord) (i : ObjIx) (name : List Byte) (k : CounterRecord) (h : Health)
    (hb : (c.obj i).body = .live ⟨name, .counter k⟩ h) : c.counter? i = some k := by
  simp [Coord.counter?, c.record?_live i _ h hb]

/-! ### Session records -/

theorem Coord.sessRecord?_current (c : Coord) (j : SessIx) (b : SessCurrent) (hb : (c.sess j).body = some b) :
    c.sessRecord? j = some b.record := by simp [Coord.sessRecord?, hb]

theorem Coord.setSessRecord_current (c : Coord) (j : SessIx) (r : SessRecord) (b : SessCurrent)
    (hb : (c.sess j).body = some b) :
    c.setSessRecord j r = c.setSess j ⟨(c.sess j).gen, some { b with record := r, health := .clean }⟩ := by
  unfold Coord.setSessRecord
  rw [hb]

theorem Coord.modSess_current (c : Coord) (j : SessIx) (f : SessRecord → SessRecord) (b : SessCurrent)
    (hb : (c.sess j).body = some b) :
    c.modSess j f = c.setSess j ⟨(c.sess j).gen, some { b with record := f b.record, health := .clean }⟩ := by
  unfold Coord.modSess
  rw [c.sessRecord?_current j b hb]
  exact c.setSessRecord_current j _ b hb

/-- A notice made for a current session is appended UNSENT with its next serial, which advances (R105). -/
theorem Coord.pushNotice_current (c : Coord) (j : SessIx) (kind : NoticeKind) (object : Handle)
    (wait : Option (Handle × Tag)) (held : Option SlotRef) (b : SessCurrent) (hb : (c.sess j).body = some b) :
    c.pushNotice j kind object wait held =
      (c.setBox j { c.box j with
        queue := (c.box j).queue ++ [⟨b.record.nextSerial, kind, object, wait, false, held⟩] }).setSess j
          ⟨(c.sess j).gen, some { b with
            record := { b.record with nextSerial := advanceSerial b.record.nextSerial }, health := .clean }⟩ := by
  unfold Coord.pushNotice
  rw [c.sessRecord?_current j b hb]
  simp only
  rw [Coord.modSess_current _ j _ b (by simpa using hb)]
  rfl

/-! ### Wait records -/

theorem Coord.freeWait_eq (c : Coord) (w : WaitIx) : c.freeWait w = c.setWait w ⟨advanceGen (c.wait w).gen, none⟩ := rfl

theorem Coord.findWait_inUse (c : Coord) (w : WaitIx) (y : WaitRecord) (hb : (c.wait w).body = some y) :
    c.findWait (waitHandle w (c.wait w).gen) = some (w, y) := by
  simp [Coord.findWait, hb]

/-! ### Resolution -/

/-- A handle that names a LIVE object with a sound record resolves to the record, and nothing changes (R4). -/
theorem resolveRecord_names (s : State) (h : Handle) (o : ObjRecord) (c : Coord) (hn : namesObject s h o)
    (hc : c.objects = s.coord.objects) : resolveRecord h c = (.ok o, c) := by
  obtain ⟨h0, ho⟩ := hn
  have hobj : c.obj h.objIx = ⟨h.gen, .live o .clean⟩ := by simpa [Coord.obj, hc] using ho
  have hr : c.resolve h = .live := by simpa [Coord.resolve, hobj] using h0
  unfold resolveRecord
  rw [hr]
  simp only
  rw [readObj_clean handler h.objIx c o (by rw [hobj])]

/-- A pass over an empty wait queue grants nothing. -/
theorem grantPass_emptyQueue (H : Handler) (bar : Option SessIx) (i : ObjIx) (c : Coord) (l : LockRecord)
    (hl : c.lock? i = some l) (hq : l.queue = []) : grantPass H bar i c = (0, c) := by
  simp [grantPass, hl, hq, grantLoop]

/-- A pass that finds the wait of the closing session at the head of the queue grants nothing (R38, R90). -/
theorem grantPass_barred (H : Handler) (i : ObjIx) (c : Coord) (l : LockRecord) (w : WaitIx) (y : WaitRecord)
    (rest : List Handle) (hl : c.lock? i = some l) (hq : l.queue = waitHandle w (c.wait w).gen :: rest)
    (hw : (c.wait w).body = some y) : grantPass H (some y.owner) i c = (0, c) := by
  simp [grantPass, hl, hq, grantLoop, c.findWait_inUse w y hw]

/-- A pass over an empty waiter list releases nothing. -/
theorem releasePass_empty (H : Handler) (i : ObjIx) (c : Coord) (k : CounterRecord) (hk : c.counter? i = some k)
    (hq : k.waiters = []) : releasePass H i c = (0, c) := by
  simp [releasePass, hk, hq]

/-- A session without waits has none to remove at its end. -/
theorem removeOwnWait_none (H : Handler) (lockWait pass : Bool) (j : SessIx) (c : Coord)
    (hn : ∀ w y, (c.wait w).body = some y → y.owner ≠ j) (n : Nat) :
    (indices 128).foldl (removeOwnWait H lockWait pass j) (n, c) = (n, c) := by
  have step : ∀ w, removeOwnWait H lockWait pass j (n, c) w = (n, c) := by
    intro w
    unfold removeOwnWait
    cases h : (c.wait w).body with
    | none => simp
    | some y => simp [hn w y h]
  generalize indices 128 = ws
  induction ws with
  | nil => rfl
  | cons w ws ih => rw [List.foldl_cons, step w, ih]

end Sys2Proof.Machine
end

