-- ==== Sys2Proof/Laws/Commands.lean ====
section
/-! SUPPORT. Each request command, taken with its request offered: the outcome of its body, run. -/

namespace Sys2Proof.Machine

/-! ### Session requests -/

theorem exec_resume_runs (s : State) (p : Link) (r : Presented) (j : SessIx) (x : SessRecord)
    (ht : engineTakes s p r) (hr : r.request = .resume) (hs : sessionServed s r j x) :
    exec (.resume p) s =
      .next (engineAfter r (resumeBody j (requestContext r s) (s.coord.setSessRecord j x.renewed)) s) := by
  show execResume p s = _
  unfold execResume
  exact engineRequest_session p _ s r true resumeBody j x ht hs (by rw [hr]; rfl) (by rw [hr])

theorem exec_renew_runs (s : State) (p : Link) (r : Presented) (j : SessIx) (x : SessRecord)
    (ht : engineTakes s p r) (hr : r.request = .renew) (hs : sessionServed s r j x) :
    exec (.renew p) s =
      .next (engineAfter r (renewBody j (requestContext r s) (s.coord.setSessRecord j x.renewed)) s) := by
  show execRenew p s = _
  unfold execRenew
  exact engineRequest_session p _ s r false renewBody j x ht hs (by rw [hr]; rfl) (by rw [hr])

theorem exec_close_runs (s : State) (p : Link) (r : Presented) (j : SessIx) (x : SessRecord)
    (ht : engineTakes s p r) (hr : r.request = .close) (hs : sessionServed s r j x) :
    exec (.close p) s =
      .next (engineAfter r (closeBody j (requestContext r s) (s.coord.setSessRecord j x.renewed)) s) := by
  show execClose p s = _
  unfold execClose
  exact engineRequest_session p _ s r false closeBody j x ht hs (by rw [hr]; rfl) (by rw [hr])

theorem exec_listSessions_runs (s : State) (p : Link) (r : Presented) (start : Byte) (want : Option Bool) (j : SessIx) (x : SessRecord)
    (ht : engineTakes s p r) (hr : r.request = .listSessions start want) (hs : sessionServed s r j x) :
    exec (.listSessions p) s =
      .next (engineAfter r (listSessionsBody start want j (requestContext r s) (s.coord.setSessRecord j x.renewed)) s) := by
  show execListSessions p s = _
  unfold execListSessions
  exact engineRequest_session p _ s r false (listSessionsBody start want) j x ht hs (by rw [hr]; rfl) (by rw [hr])

/-- The field checks of CREATE refuse what is not allowed, with MALFORMED for a field of the other kind and RANGE for
anything else (R6). -/
theorem createChecks_refuses (kind : Byte) (name : List Byte) (rank cap : Option Byte) (ceil init : Option Nat)
    (h : ¬ createAllowed kind name rank cap ceil init) :
    createChecks kind name rank cap ceil init =
      some (if kind = 1 ∧ (ceil ≠ none ∨ init ≠ none) ∨ kind = 2 ∧ (rank ≠ none ∨ cap ≠ none) then .malformed
        else .range) := by
  have hk1 : KindField.lock.code = 1 := rfl
  have hk2 : KindField.counter.code = 2 := rfl
  unfold createChecks
  rw [hk1, hk2]
  by_cases h1 : kind = 1
  · subst h1
    rcases ceil with _ | ceil <;> rcases init with _ | init <;> simp
    by_cases hn : nameLengthOk name
    · rcases cap with _ | cap
      · simp [createAllowed, nameLengthOk] at *; omega
      · simp [createAllowed, nameLengthOk] at *; simp [*]; omega
    · simp [hn]
  · by_cases h2 : kind = 2
    · subst h2
      rcases rank with _ | rank <;> rcases cap with _ | cap <;> simp
      by_cases hn : nameLengthOk name
      · have hl : 1 ≤ name.length ∧ name.length ≤ 16 := by simpa [nameLengthOk] using hn
        have hv : ¬ (1 ≤ ceil.getD Config.maxU32 ∧ init.getD 0 ≤ ceil.getD Config.maxU32) := fun q =>
          h ⟨hl.1, hl.2, .inr ⟨rfl, rfl, rfl, q.1, q.2⟩⟩
        have hm : 0 < Config.maxU32 := by decide
        intro _
        rcases ceil with _ | ceil <;> rcases init with _ | init <;> simp at hv ⊢
        · omega
        · omega
        · exact hv
        · exact fun hc => hv (by omega)
      · simp [hn]
    · have hn1 : ¬ kind = 1#8 := h1
      have hn2 : ¬ kind = 2#8 := h2
      simp [hn1, hn2]

theorem exec_create_runs (s : State) (p : Link) (r : Presented) (kind : Byte) (name : List Byte) (oie : Bool) (rank cap : Option Byte) (ceil init : Option Nat) (j : SessIx) (x : SessRecord)
    (ht : engineTakes s p r) (hr : r.request = .create kind name oie rank cap ceil init) (hs : sessionServed s r j x) :
    exec (.create p) s =
      .next (engineAfter r (createBody kind name oie rank cap ceil init j (requestContext r s) (s.coord.setSessRecord j x.renewed)) s) := by
  show execCreate p s = _
  unfold execCreate
  exact engineRequest_session p _ s r false (createBody kind name oie rank cap ceil init) j x ht hs (by rw [hr]; rfl) (by rw [hr])

theorem exec_find_runs (s : State) (p : Link) (r : Presented) (name : List Byte) (j : SessIx) (x : SessRecord)
    (ht : engineTakes s p r) (hr : r.request = .find name) (hs : sessionServed s r j x) :
    exec (.find p) s =
      .next (engineAfter r (findBody name j (requestContext r s) (s.coord.setSessRecord j x.renewed)) s) := by
  show execFind p s = _
  unfold execFind
  exact engineRequest_session p _ s r false (findBody name) j x ht hs (by rw [hr]; rfl) (by rw [hr])

theorem exec_delete_runs (s : State) (p : Link) (r : Presented) (h : Handle) (force : Bool) (j : SessIx) (x : SessRecord)
    (ht : engineTakes s p r) (hr : r.request = .delete h force) (hs : sessionServed s r j x) :
    exec (.delete p) s =
      .next (engineAfter r (deleteBody h force j (requestContext r s) (s.coord.setSessRecord j x.renewed)) s) := by
  show execDelete p s = _
  unfold execDelete
  exact engineRequest_session p _ s r false (deleteBody h force) j x ht hs (by rw [hr]; rfl) (by rw [hr])

theorem exec_describe_runs (s : State) (p : Link) (r : Presented) (h : Handle) (j : SessIx) (x : SessRecord)
    (ht : engineTakes s p r) (hr : r.request = .describe h) (hs : sessionServed s r j x) :
    exec (.describe p) s =
      .next (engineAfter r (describeBody h j (requestContext r s) (s.coord.setSessRecord j x.renewed)) s) := by
  show execDescribe p s = _
  unfold execDescribe
  exact engineRequest_session p _ s r false (describeBody h) j x ht hs (by rw [hr]; rfl) (by rw [hr])

theorem exec_listObjects_runs (s : State) (p : Link) (r : Presented) (start : Byte) (j : SessIx) (x : SessRecord)
    (ht : engineTakes s p r) (hr : r.request = .listObjects start) (hs : sessionServed s r j x) :
    exec (.listObjects p) s =
      .next (engineAfter r (listObjectsBody start j (requestContext r s) (s.coord.setSessRecord j x.renewed)) s) := by
  show execListObjects p s = _
  unfold execListObjects
  exact engineRequest_session p _ s r false (listObjectsBody start) j x ht hs (by rw [hr]; rfl) (by rw [hr])

theorem exec_acquire_runs (s : State) (p : Link) (r : Presented) (h : Handle) (mode : Byte) (tr : Bool) (d : Option Nat) (j : SessIx) (x : SessRecord)
    (ht : engineTakes s p r) (hr : r.request = .acquire h mode tr d) (hs : sessionServed s r j x) :
    exec (.acquire p) s =
      .next (engineAfter r (acquireBody h mode tr d j (requestContext r s) (s.coord.setSessRecord j x.renewed)) s) := by
  show execAcquire p s = _
  unfold execAcquire
  exact engineRequest_session p _ s r false (acquireBody h mode tr d) j x ht hs (by rw [hr]; rfl) (by rw [hr])

theorem exec_release_runs (s : State) (p : Link) (r : Presented) (h : Handle) (repaired : Bool) (j : SessIx) (x : SessRecord)
    (ht : engineTakes s p r) (hr : r.request = .release h repaired) (hs : sessionServed s r j x) :
    exec (.release p) s =
      .next (engineAfter r (releaseBody h repaired j (requestContext r s) (s.coord.setSessRecord j x.renewed)) s) := by
  show execRelease p s = _
  unfold execRelease
  exact engineRequest_session p _ s r false (releaseBody h repaired) j x ht hs (by rw [hr]; rfl) (by rw [hr])

theorem exec_cancel_runs (s : State) (p : Link) (r : Presented) (id : Handle) (j : SessIx) (x : SessRecord)
    (ht : engineTakes s p r) (hr : r.request = .cancel id) (hs : sessionServed s r j x) :
    exec (.cancel p) s =
      .next (engineAfter r (cancelBody id j (requestContext r s) (s.coord.setSessRecord j x.renewed)) s) := by
  show execCancel p s = _
  unfold execCancel
  exact engineRequest_session p _ s r false (cancelBody id) j x ht hs (by rw [hr]; rfl) (by rw [hr])

theorem exec_countRead_runs (s : State) (p : Link) (r : Presented) (h : Handle) (j : SessIx) (x : SessRecord)
    (ht : engineTakes s p r) (hr : r.request = .countRead h) (hs : sessionServed s r j x) :
    exec (.countRead p) s =
      .next (engineAfter r (countBody h countReadOwn j (requestContext r s) (s.coord.setSessRecord j x.renewed)) s) := by
  show execCountRead p s = _
  unfold execCountRead
  exact engineRequest_session p _ s r false (countBody h countReadOwn) j x ht hs (by rw [hr]; rfl) (by rw [hr])

theorem exec_countSet_runs (s : State) (p : Link) (r : Presented) (h : Handle) (v : Nat) (j : SessIx) (x : SessRecord)
    (ht : engineTakes s p r) (hr : r.request = .countSet h v) (hs : sessionServed s r j x) :
    exec (.countSet p) s =
      .next (engineAfter r (countBody h (countSetOwn h.objIx v) j (requestContext r s) (s.coord.setSessRecord j x.renewed)) s) := by
  show execCountSet p s = _
  unfold execCountSet
  exact engineRequest_session p _ s r false (countBody h (countSetOwn h.objIx v)) j x ht hs (by rw [hr]; rfl) (by rw [hr])

theorem exec_countAdd_runs (s : State) (p : Link) (r : Presented) (h : Handle) (d : Int) (j : SessIx) (x : SessRecord)
    (ht : engineTakes s p r) (hr : r.request = .countAdd h d) (hs : sessionServed s r j x) :
    exec (.countAdd p) s =
      .next (engineAfter r (countBody h (countAddOwn h.objIx d) j (requestContext r s) (s.coord.setSessRecord j x.renewed)) s) := by
  show execCountAdd p s = _
  unfold execCountAdd
  exact engineRequest_session p _ s r false (countBody h (countAddOwn h.objIx d)) j x ht hs (by rw [hr]; rfl) (by rw [hr])

theorem exec_countSwap_runs (s : State) (p : Link) (r : Presented) (h : Handle) (e v : Nat) (j : SessIx) (x : SessRecord)
    (ht : engineTakes s p r) (hr : r.request = .countSwap h e v) (hs : sessionServed s r j x) :
    exec (.countSwap p) s =
      .next (engineAfter r (countBody h (countSwapOwn h.objIx e v) j (requestContext r s) (s.coord.setSessRecord j x.renewed)) s) := by
  show execCountSwap p s = _
  unfold execCountSwap
  exact engineRequest_session p _ s r false (countBody h (countSwapOwn h.objIx e v)) j x ht hs (by rw [hr]; rfl) (by rw [hr])

theorem exec_countRaise_runs (s : State) (p : Link) (r : Presented) (h : Handle) (v : Nat) (j : SessIx) (x : SessRecord)
    (ht : engineTakes s p r) (hr : r.request = .countRaise h v) (hs : sessionServed s r j x) :
    exec (.countRaise p) s =
      .next (engineAfter r (countBody h (countRaiseOwn h.objIx v) j (requestContext r s) (s.coord.setSessRecord j x.renewed)) s) := by
  show execCountRaise p s = _
  unfold execCountRaise
  exact engineRequest_session p _ s r false (countBody h (countRaiseOwn h.objIx v)) j x ht hs (by rw [hr]; rfl) (by rw [hr])

theorem exec_countLower_runs (s : State) (p : Link) (r : Presented) (h : Handle) (v : Nat) (j : SessIx) (x : SessRecord)
    (ht : engineTakes s p r) (hr : r.request = .countLower h v) (hs : sessionServed s r j x) :
    exec (.countLower p) s =
      .next (engineAfter r (countBody h (countLowerOwn h.objIx v) j (requestContext r s) (s.coord.setSessRecord j x.renewed)) s) := by
  show execCountLower p s = _
  unfold execCountLower
  exact engineRequest_session p _ s r false (countBody h (countLowerOwn h.objIx v)) j x ht hs (by rw [hr]; rfl) (by rw [hr])

theorem exec_await_runs (s : State) (p : Link) (r : Presented) (h : Handle) (threshold : Nat) (take tr : Bool) (d : Option Nat) (j : SessIx) (x : SessRecord)
    (ht : engineTakes s p r) (hr : r.request = .await h threshold take tr d) (hs : sessionServed s r j x) :
    exec (.await p) s =
      .next (engineAfter r (awaitBody h threshold take tr d j (requestContext r s) (s.coord.setSessRecord j x.renewed)) s) := by
  show execAwait p s = _
  unfold execAwait
  exact engineRequest_session p _ s r false (awaitBody h threshold take tr d) j x ht hs (by rw [hr]; rfl) (by rw [hr])

/-! ### OPEN -/

theorem exec_openSession_runs (s : State) (p : Link) (r : Presented) (lease : Option Nat) (ordered : Option Bool)
    (label : Option (List Byte)) (ht : engineTakes s p r) (hr : r.request = .openSession lease ordered label) :
    exec (.openSession p) s = .next (engineAfter r (openBody lease ordered label (requestContext r s) s.coord) s) := by
  show execOpenSession p s = _
  unfold execOpenSession
  exact engineRequest_runs p _ s r _ ht (by rw [hr])

/-! ### Device requests -/

theorem exec_identify_runs (s : State) (p : Link) (r : Presented)
    (ht : mgmtTakes s p r) (hr : r.request = .identify) :
    exec (.identify p) s = .next (mgmtAfter r identifyBody s) := by
  show execIdentify p s = _
  unfold execIdentify
  exact mgmtRequest_runs p _ s r _ _ ht (by rw [hr])

theorem exec_paramGet_runs (s : State) (p : Link) (r : Presented) (id : Byte)
    (ht : mgmtTakes s p r) (hr : r.request = .paramGet id) :
    exec (.paramGet p) s = .next (mgmtAfter r (paramGetBody id) s) := by
  show execParamGet p s = _
  unfold execParamGet
  exact mgmtRequest_runs p _ s r _ _ ht (by rw [hr])

theorem exec_paramSet_runs (s : State) (p : Link) (r : Presented) (id : Byte) (v : Nat)
    (ht : mgmtTakes s p r) (hr : r.request = .paramSet id v) :
    exec (.paramSet p) s = .next (mgmtAfter r (paramSetBody id v) s) := by
  show execParamSet p s = _
  unfold execParamSet
  exact mgmtRequest_runs p _ s r _ _ ht (by rw [hr])

theorem exec_statsGet_runs (s : State) (p : Link) (r : Presented) (g : Byte) (clear : Bool)
    (ht : mgmtTakes s p r) (hr : r.request = .statsGet g clear) :
    exec (.statsGet p) s = .next (mgmtAfter r (statsGetBody g clear) s) := by
  show execStatsGet p s = _
  unfold execStatsGet
  exact mgmtRequest_runs p _ s r _ _ ht (by rw [hr])

theorem exec_linkControlStart_runs (s : State) (p : Link) (r : Presented) (link command : Byte)
    (ht : mgmtTakes s p r) (hr : r.request = .linkControl link command) (hc : command ≠ codeStop) :
    exec (.linkControlStart p) s = .next (mgmtAfter r (linkStartBody link command) s) := by
  show execLinkControlStart p s = _
  unfold execLinkControlStart
  exact mgmtRequest_runs p _ s r _ _ ht (by rw [hr]; simp only [hc]; rfl)

theorem exec_linkControlStop_runs (s : State) (p : Link) (r : Presented) (link command : Byte)
    (ht : mgmtTakes s p r) (hr : r.request = .linkControl link command) (hc : command = codeStop) :
    exec (.linkControlStop p) s = .next (mgmtAfter r (linkStopBody link) s) := by
  show execLinkControlStop p s = _
  unfold execLinkControlStop
  exact mgmtRequest_runs p _ s r _ _ ht (by rw [hr]; simp only [hc]; rfl)

theorem exec_deviceReset_runs (s : State) (p : Link) (r : Presented) (scope : Byte)
    (ht : mgmtTakes s p r) (hr : r.request = .deviceReset scope) :
    exec (.deviceReset p) s = .next (mgmtAfter r (deviceResetBody scope) s) := by
  show execDeviceReset p s = _
  unfold execDeviceReset
  exact mgmtRequest_runs p _ s r _ _ ht (by rw [hr])

end Sys2Proof.Machine
end

