-- ==== Sys2Proof/Laws/Ports.lean ====
section
/-! SUPPORT. What the shared operations of the ports and of the request path can do: the offering of a HELLO, the
presentation of a request, what waits to be sent, and the reports of removed frames. -/

namespace Sys2Proof.Machine

/-! ### HELLO -/

/-- On an idle lane the HELLO is in progress at once (R139). -/
theorem Port.offerHello_idle (epoch : BitVec 16) (x : Port) (h : x.inProgress = none) :
    x.offerHello epoch = x.sendHello epoch := by simp [Port.offerHello, h]

/-- With a frame in progress the HELLO is due. -/
theorem Port.offerHello_busy (epoch : BitVec 16) (x : Port) (f : Frame) (h : x.inProgress = some f) :
    x.offerHello epoch = { x with helloDue := true } := by simp [Port.offerHello, h]

@[simp] theorem Port.offerHello_state (epoch : BitVec 16) (x : Port) :
    (x.offerHello epoch).state = x.state := by
  unfold Port.offerHello; split <;> rfl
@[simp] theorem Port.offerHello_laneReady (epoch : BitVec 16) (x : Port) :
    (x.offerHello epoch).laneReady = x.laneReady := by
  unfold Port.offerHello; split <;> rfl
@[simp] theorem Port.offerHello_seen (epoch : BitVec 16) (x : Port) :
    (x.offerHello epoch).seen = x.seen := by
  unfold Port.offerHello; split <;> rfl
@[simp] theorem Port.offerHello_partnerDepth (epoch : BitVec 16) (x : Port) :
    (x.offerHello epoch).partnerDepth = x.partnerDepth := by
  unfold Port.offerHello; split <;> rfl
@[simp] theorem Port.offerHello_greetingTimer (epoch : BitVec 16) (x : Port) :
    (x.offerHello epoch).greetingTimer = x.greetingTimer := by
  unfold Port.offerHello; split <;> rfl
@[simp] theorem Port.offerHello_helloTimer (epoch : BitVec 16) (x : Port) :
    (x.offerHello epoch).helloTimer = x.helloTimer := by
  unfold Port.offerHello; split <;> rfl
@[simp] theorem Port.offerHello_holdoffTimer (epoch : BitVec 16) (x : Port) :
    (x.offerHello epoch).holdoffTimer = x.holdoffTimer := by
  unfold Port.offerHello; split <;> rfl
@[simp] theorem Port.offerHello_partnerHeard (epoch : BitVec 16) (x : Port) :
    (x.offerHello epoch).partnerHeard = x.partnerHeard := by
  unfold Port.offerHello; split <;> rfl
@[simp] theorem Port.offerHello_nextNum (epoch : BitVec 16) (x : Port) :
    (x.offerHello epoch).nextNum = x.nextNum := by
  unfold Port.offerHello; split <;> rfl
@[simp] theorem Port.offerHello_sentCount (epoch : BitVec 16) (x : Port) :
    (x.offerHello epoch).sentCount = x.sentCount := by
  unfold Port.offerHello; split <;> rfl
@[simp] theorem Port.offerHello_partnerLimit (epoch : BitVec 16) (x : Port) :
    (x.offerHello epoch).partnerLimit = x.partnerLimit := by
  unfold Port.offerHello; split <;> rfl
@[simp] theorem Port.offerHello_replay (epoch : BitVec 16) (x : Port) :
    (x.offerHello epoch).replay = x.replay := by
  unfold Port.offerHello; split <;> rfl
@[simp] theorem Port.offerHello_lastAdvertised (epoch : BitVec 16) (x : Port) :
    (x.offerHello epoch).lastAdvertised = x.lastAdvertised := by
  unfold Port.offerHello; split <;> rfl
@[simp] theorem Port.offerHello_expected (epoch : BitVec 16) (x : Port) :
    (x.offerHello epoch).expected = x.expected := by
  unfold Port.offerHello; split <;> rfl
@[simp] theorem Port.offerHello_taken (epoch : BitVec 16) (x : Port) :
    (x.offerHello epoch).taken = x.taken := by
  unfold Port.offerHello; split <;> rfl
@[simp] theorem Port.offerHello_rxBuffer (epoch : BitVec 16) (x : Port) :
    (x.offerHello epoch).rxBuffer = x.rxBuffer := by
  unfold Port.offerHello; split <;> rfl
@[simp] theorem Port.offerHello_silence (epoch : BitVec 16) (x : Port) :
    (x.offerHello epoch).silence = x.silence := by
  unfold Port.offerHello; split <;> rfl
@[simp] theorem Port.offerHello_silenceDue (epoch : BitVec 16) (x : Port) :
    (x.offerHello epoch).silenceDue = x.silenceDue := by
  unfold Port.offerHello; split <;> rfl
@[simp] theorem Port.offerHello_lastServed (epoch : BitVec 16) (x : Port) :
    (x.offerHello epoch).lastServed = x.lastServed := by
  unfold Port.offerHello; split <;> rfl
@[simp] theorem Port.offerHello_discarding (epoch : BitVec 16) (x : Port) :
    (x.offerHello epoch).discarding = x.discarding := by
  unfold Port.offerHello; split <;> rfl
@[simp] theorem Port.offerHello_rewindTimer (epoch : BitVec 16) (x : Port) :
    (x.offerHello epoch).rewindTimer = x.rewindTimer := by
  unfold Port.offerHello; split <;> rfl
@[simp] theorem Port.offerHello_attempts (epoch : BitVec 16) (x : Port) :
    (x.offerHello epoch).attempts = x.attempts := by
  unfold Port.offerHello; split <;> rfl
@[simp] theorem Port.offerHello_rewindDue (epoch : BitVec 16) (x : Port) :
    (x.offerHello epoch).rewindDue = x.rewindDue := by
  unfold Port.offerHello; split <;> rfl
@[simp] theorem Port.offerHello_replayPos (epoch : BitVec 16) (x : Port) :
    (x.offerHello epoch).replayPos = x.replayPos := by
  unfold Port.offerHello; split <;> rfl
@[simp] theorem Port.offerHello_markDue (epoch : BitVec 16) (x : Port) :
    (x.offerHello epoch).markDue = x.markDue := by
  unfold Port.offerHello; split <;> rfl
@[simp] theorem Port.offerHello_failDispatcher (epoch : BitVec 16) (x : Port) :
    (x.offerHello epoch).failDispatcher = x.failDispatcher := by
  unfold Port.offerHello; split <;> rfl
@[simp] theorem Port.offerHello_failEngine (epoch : BitVec 16) (x : Port) :
    (x.offerHello epoch).failEngine = x.failEngine := by
  unfold Port.offerHello; split <;> rfl
@[simp] theorem Port.offerHello_failNotices (epoch : BitVec 16) (x : Port) :
    (x.offerHello epoch).failNotices = x.failNotices := by
  unfold Port.offerHello; split <;> rfl
@[simp] theorem Port.offerHello_noticeAcks (epoch : BitVec 16) (x : Port) :
    (x.offerHello epoch).noticeAcks = x.noticeAcks := by
  unfold Port.offerHello; split <;> rfl
@[simp] theorem Port.offerHello_resetAck (epoch : BitVec 16) (x : Port) :
    (x.offerHello epoch).resetAck = x.resetAck := by
  unfold Port.offerHello; split <;> rfl
@[simp] theorem Port.offerHello_out (epoch : BitVec 16) (x : Port) :
    (x.offerHello epoch).out = x.out := by
  unfold Port.offerHello; split <;> rfl

/-! ### Presentation -/

/-- The dispatcher presents exactly while its port does (R127). -/
theorem presents_iff (s : State) (p : Link) : presents p s = true ↔ presenting s p := by simp [presents, presenting]

/-- The oldest PENDING request of a list of slots (R127). -/
theorem Dispatcher.findPending_iff (d : Dispatcher) (p : Link) (ks : List SlotIx) (r : Presented) :
    ks.findSome? (d.pendingAt? p) = some r ↔
      r.link = p ∧ (d.slot r.slot).body = .pending r.header r.request r.route ∧
        ∃ before after, ks = before ++ r.slot :: after ∧
          ∀ n, n ∈ before → ∀ h q u, (d.slot n).body ≠ .pending h q u := by
  rw [List.findSome?_eq_some_iff]
  constructor
  · rintro ⟨before, k, after, rfl, hk, hb⟩
    unfold Dispatcher.pendingAt? at hk hb
    split at hk
    · rename_i hp
      cases hk
      refine ⟨rfl, hp, before, after, rfl, fun n hn h q u hc => ?_⟩
      have := hb n hn
      simp [hc] at this
    · cases hk
  · rintro ⟨rfl, hp, before, after, rfl, hb⟩
    refine ⟨before, r.slot, after, rfl, by simp [Dispatcher.pendingAt?, hp], fun n hn => ?_⟩
    unfold Dispatcher.pendingAt?
    split
    · rename_i hc
      exact absurd hc (hb n hn _ _ _)
    · rfl

/-- What port `p` presents to a unit: the oldest PENDING request of its reply queue, if it is for the unit (R127). -/
theorem presented?_iff (s : State) (p : Link) (unit : Route) (r : Presented) :
    (presented? p s).filter (fun r => r.route == unit) = some r ↔
      r.link = p ∧ r.route = unit ∧ presenting s p ∧ oldestPending s p r.slot r.header r.request unit := by
  unfold presented?
  split
  · rename_i hp
    rw [Option.filter_eq_some_iff, Dispatcher.findPending_iff]
    constructor
    · rintro ⟨⟨hl, hb, hq⟩, hu⟩
      obtain rfl : r.route = unit := by simpa using hu
      exact ⟨hl, rfl, (presents_iff s p).mp hp, hb, hq⟩
    · rintro ⟨hl, rfl, -, hb, hq⟩
      exact ⟨⟨hl, hb, hq⟩, by simp⟩
  · rename_i hp
    constructor
    · intro h; simp at h
    · rintro ⟨-, -, h, -⟩
      exact absurd ((presents_iff s p).mpr h) hp

/-! ### What waits to be sent -/

theorem headReply?_iff (s : State) (p : Link) (k : SlotIx) (r : Reply) :
    (s.disp p).headReply? = some (k, r) ↔ replyReady s p k r := by
  unfold Dispatcher.headReply? replyReady
  cases hq : (s.disp p).queue with
  | nil => simp
  | cons k' rest =>
    constructor
    · intro h
      simp only at h
      split at h
      · rename_i hb
        cases h
        exact ⟨⟨rest, rfl⟩, hb⟩
      · cases h
    · rintro ⟨⟨_, e⟩, hb⟩
      cases e
      simp [hb]

/-- The notice unit hands over the oldest UNSENT notice of a session OPEN on the link, if it is not held (R110). -/
theorem eligible?_iff (s : State) (p : Link) (j : SessIx) (g : Byte) (n : Notice) :
    (s.coord.box j).eligible? p = some (g, n) ↔ noticeReady s p j g n := by
  unfold NoticeBox.eligible? noticeReady
  cases hv : (s.coord.box j).view with
  | none => simp
  | some v =>
    obtain ⟨o, g', l⟩ := v
    have hf := List.find?_eq_some_iff_append (xs := (s.coord.box j).queue) (p := fun n : Notice => !n.sent) (b := n)
    constructor
    · intro h
      simp only at h
      split at h
      · rename_i ho
        split at h
        · rename_i m hm
          split at h
          · cases h
            obtain ⟨h1, before, after, h2, h3⟩ := hf.mp hm
            refine ⟨by simp [ho.1, ho.2], by simpa using h1, by simp_all, before, after, h2, fun m hm => ?_⟩
            simpa using h3 m hm
          · cases h
        · cases h
      · cases h
    · rintro ⟨hv, h1, h2, before, after, h3, h4⟩
      cases hv
      have hm := hf.mpr ⟨by simp [h1], before, after, h3, fun m hm => by simp [h4 m hm]⟩
      simp [hm, h2]

/-! ### Removed frames -/

/-- The removal of one acknowledged frame reports the notice it carried, or the OK reply to a DEVICE_RESET (R144). -/
theorem Port.reportRemoved_eq (x : Port) (e : ReplayEntry) :
    x.reportRemoved e =
      { x with noticeAcks := x.noticeAcks ++ noticesOf [e], resetAck := x.resetAck || okResetReplyIn [e] } := by
  rcases e with ⟨num, m, load⟩
  cases load with
  | notice h n => simp [Port.reportRemoved, noticesOf, okResetReplyIn]
  | alert =>
    have hc : okResetReplyIn [⟨num, m, .alert⟩] = false := rfl
    simp [Port.reportRemoved, noticesOf, hc]
  | reply code =>
    by_cases h : code = 26 ∧ m.body.head? = some 0
    · simp [Port.reportRemoved, noticesOf, okResetReplyIn, codeDeviceReset, Status.code, h]
    · have hn : ¬ (code = codeDeviceReset ∧ m.body.head? = some Status.ok.code) := h
      have hc : okResetReplyIn [⟨num, m, .reply code⟩] = false := by simpa [okResetReplyIn] using h
      simp [Port.reportRemoved, if_neg hn, noticesOf, hc]

/-- The removal of frames reports what they carried in frame order, and changes nothing else (R144). -/
theorem Port.foldl_reportRemoved (l : List ReplayEntry) (x : Port) :
    l.foldl Port.reportRemoved x =
      { x with noticeAcks := x.noticeAcks ++ noticesOf l, resetAck := x.resetAck || okResetReplyIn l } := by
  induction l generalizing x with
  | nil => simp [noticesOf, okResetReplyIn]
  | cons e l ih =>
    rw [List.foldl_cons, ih, Port.reportRemoved_eq]
    simp [noticesOf, okResetReplyIn, Bool.or_assoc, List.filterMap_cons]
    split <;> simp

end Sys2Proof.Machine
end

