-- ==== Sys2Proof/Tests/Slice0.lean ====
section
/-! SUPPORT. Tests: the well-formedness check refuses ill-formed commands; the check code and the frames have the bytes the
spec gives them; steps of the spec's worked sequences; and for every statement with hypotheses a concrete state that
meets them. Expected values come from the spec's text, named at each test. -/

namespace Sys2Proof.Tests

open Sys2Proof.Machine

-- One test after the other: a thread for each of them at once takes too much memory.
set_option Elab.async false

/-! ### Well-formedness -/

/-- A message whose body is 49 bytes long. -/
def longMessage : Message := ⟨1, 1, 0, 49, 0, Handle.zero, List.replicate 49 0⟩

theorem test_wf_refuses_long_frame : (Instr.receiveData 0 0 0 0 longMessage).wf = false := by decide

theorem test_wf_accepts_longest_frame :
    (Instr.receiveData 0 0 0 0 ⟨1, 1, 0, 48, 0, Handle.zero, List.replicate 48 0⟩).wf = true := by decide

theorem test_wf_accepts_event : (Instr.laneLost 3).wf = true := by decide

/-! ### Frames as bytes -/

/-- The parameters of R187 are those of the common 32-bit code, whose check value over "123456789" is CBF43926h. -/
theorem test_check_code : checkCode [0x31, 0x32, 0x33, 0x34, 0x35, 0x36, 0x37, 0x38, 0x39] = 0xCBF43926#32 := by
  decide +kernel

/-- A HELLO of the part: kind 5 and revision 1 in byte 0, depth 16, seen flag and role 1 in byte 1, epoch 0008h (R187). -/
theorem test_hello_bytes : frameBody (.hello ⟨1, 16, true, true, 8⟩) = [0x15, 0x70, 0x08, 0x00] := by decide

/-- The notice of the sizing section: a GRANTED notice fills 28 bytes (R189). -/
theorem test_granted_notice_length :
    (frameBytes (.data 0 0 0 (Notice.message ⟨1, .granted false, ⟨2, 1⟩, some (⟨0, 1⟩, 5), false, none⟩ ⟨1, 1⟩))).length
      = 28 := by decide +kernel

/-- An ACQUIRE with a deadline as R189 lays it out: handle 0104h, SHARED, try, deadline 1000. -/
theorem test_acquire_body :
    parseRequest 10 1 [0x04, 0x01, 1, 1, 0xE8, 0x03] = some (.acquire ⟨4, 1⟩ 1 true (some 1000)) := by decide

/-- COUNT_ADD of −1: the delta in two's complement (R188). -/
theorem test_count_add_body :
    parseRequest 15 0 [0x04, 0x01, 0xFF, 0xFF, 0xFF, 0xFF] = some (.countAdd ⟨4, 1⟩ (-1)) := by decide

/-- A byte beyond the last field is MALFORMED (R124). -/
theorem test_trailing_byte : parseRequest 13 0 [0x04, 0x01, 0] = none := by decide

/-! ### States to test on -/

/-- A port that is UP with a partner of depth 16 and its whole credit. -/
def upPort : Port :=
  { Port.initial with
    state := .up, laneReady := true, seen := true, partnerDepth := some 16, partnerLimit := 16, idleTimer := some 5 }

/-- A session record with no holdings. -/
def plainRecord : SessRecord where
  period := 2000
  remaining := 1500
  ordered := false
  label := []
  holds := []
  lockWaits := 0
  counterWaits := 0
  nextSerial := 1

/-- Session entries: open on a link with a record, at generation 1. -/
def openOn (p : Link) (x : SessRecord) : SessEntry := ⟨1, some ⟨false, p, x, .clean⟩⟩

/-- A LIVE lock entry named "a" at generation 1. -/
def lockEntry (l : LockRecord) : ObjEntry := ⟨1, .live ⟨[97], .lock l⟩ .clean⟩

/-- A LIVE counter entry named "n" at generation 1. -/
def counterEntry (k : CounterRecord) : ObjEntry := ⟨1, .live ⟨[110], .counter k⟩ .clean⟩

/-- A FREE lock of capacity 8. -/
def freeLock : LockRecord := ⟨5, 8, .free, [], [], false⟩

/-- The part with L0 and L1 UP, and the given entries. -/
def part (objs : List (ObjIx × ObjEntry)) (sess : List (SessIx × SessEntry)) (waits : List (WaitIx × WaitEntry)) :
    State :=
  let c := objs.foldl (fun c e => c.setObj e.1 e.2) Coord.initial
  let c := sess.foldl (fun c e => (c.setSess e.1 e.2).setBox e.1
    ⟨e.2.body.map fun b => ⟨b.orphaned, e.2.gen, b.bound⟩, []⟩) c
  let c := waits.foldl (fun c e => c.setWait e.1 e.2) c
  ((State.reset.setCoord c).setPort 0 upPort).setPort 1 upPort

/-- The request as L0 presents it from slot 0, with tag 0007h and session 0101h, or none for a device request. -/
def asked (req : Request) : Presented :=
  ⟨0, 0, ⟨req.code, 7, if req.isDevice then Handle.zero else ⟨1, 1⟩⟩, req, req.route⟩

/-- The request stands PENDING in slot 0 of L0. -/
def asking (req : Request) (s : State) : State :=
  s.modDisp 0 fun d => { d.setSlot 0 ⟨1, .pending (asked req).header req req.route⟩ with queue := [0] }

/-- The state after one command, for comparison. -/
def after (c : Instr) (s : State) : State :=
  match exec c s with
  | .next t => t
  | _ => s

/-- The reply that stands in slot 0 of L0. -/
def replyOf (s : State) : Option ReplyBody :=
  match ((s.disp 0).slot 0).body with
  | .finished r => some r.body
  | _ => none

/-- No LIVE object record has a wrong bit, as a check. -/
def allObjectsClean (s : State) : Bool :=
  (indices 256).all fun i => match (s.coord.obj i).body with
    | .live _ u => u == .clean
    | _ => true

/-- No session record has a wrong bit, as a check. -/
def allSessionsClean (s : State) : Bool :=
  (indices 32).all fun j => match (s.coord.sess j).body with
    | some b => b.health == .clean
    | none => true

/-- No wait in use passes a test, as a check. -/
def noWait (s : State) (f : WaitRecord → Bool) : Bool :=
  (indices 128).all fun w => match (s.coord.wait w).body with
    | some y => !f y
    | none => true

/-- No LIVE object passes a test, as a check. -/
def noObject (s : State) (f : ObjRecord → Bool) : Bool :=
  (indices 256).all fun i => match s.coord.record? i with
    | some o => !f o
    | none => true

theorem objectsClean_of {s : State} (h : allObjectsClean s = true) : objectsClean s := by
  intro i o u hb
  have hi := List.all_eq_true.mp h i (List.mem_finRange i)
  rw [hb] at hi
  simpa using hi

theorem sessionsClean_of {s : State} (h : allSessionsClean s = true) : sessionsClean s := by
  intro j b hb
  have hj := List.all_eq_true.mp h j (List.mem_finRange j)
  rw [hb] at hj
  simpa using hj

theorem noWait_of {s : State} {f : WaitRecord → Bool} (h : noWait s f = true) :
    ∀ w y, (s.coord.wait w).body = some y → f y = false := by
  intro w y hb
  have hw := List.all_eq_true.mp h w (List.mem_finRange w)
  rw [hb] at hw
  simpa using hw

theorem noObject_of {s : State} {f : ObjRecord → Bool} (h : noObject s f = true) :
    ∀ k o, s.coord.record? k = some o → f o = false := by
  intro k o hb
  have hk := List.all_eq_true.mp h k (List.mem_finRange k)
  rw [hb] at hk
  simpa using hk

theorem ownsNoWait_of {s : State} {j : SessIx} (h : noWait s (fun y => y.owner == j) = true) : ownsNoWait s j := by
  intro w y hb
  simpa using noWait_of h w y hb

theorem notWaitingOn_of {s : State} {j : SessIx} {h : Handle}
    (hn : noWait s (fun y => y.owner == j && y.object == h) = true) : notWaitingOn s j h := by
  intro w y hb ho he
  have := noWait_of hn w y hb
  simp [ho, he] at this

/-- No lease but session `j`'s and no deadline but wait `w`'s runs out in the next coarse tick, as a check. -/
def allOutlast (s : State) (j : Option SessIx) (w : Option WaitIx) : Bool :=
  ((indices 32).all fun n => some n == j || (s.coord.sess n).body.all fun b => decide (2 ≤ b.record.remaining)) &&
    (indices 128).all fun v => some v == w ||
      (s.coord.wait v).body.all fun y => y.deadline.all fun d => decide (2 ≤ d)

theorem noneRunsOut_of {s : State} {j : Option SessIx} {w : Option WaitIx} (h : allOutlast s j w = true) :
    noneRunsOut s j w := by
  simp only [allOutlast, Bool.and_eq_true, List.all_eq_true, Bool.or_eq_true, beq_iff_eq] at h
  refine ⟨fun n b hn hb => ?_, fun v y d hv hy hd => ?_⟩
  · have := (h.1 n (List.mem_finRange n)).resolve_left hn
    rw [hb] at this
    simpa using this
  · have := (h.2 v (List.mem_finRange v)).resolve_left hv
    rw [hy] at this
    simpa [hd] using this

/-- The engine takes L0's request, when it is the only one presented. -/
theorem takes_of {s : State} {r : Presented} (h : offer? .engine s.engineLast s = some r ∧ r.link = 0) :
    engineTakes s 0 r := h

/-- Session 0101h, open on L0 with a sound record, is served. -/
theorem served_of {s : State} {r : Presented} {x : SessRecord}
    (h : (match sessionCheck (r.request == .resume) r.header.session r.link s.coord with
      | .ok j => some j
      | .error _ => none) = some 0 ∧ (s.coord.sess 0).body = some ⟨false, 0, x, .clean⟩) :
    sessionServed s r 0 x := by
  obtain ⟨h1, h2⟩ := h
  refine ⟨?_, _, h2, rfl, rfl⟩
  generalize sessionCheck (r.request == .resume) r.header.session r.link s.coord = e at *
  cases e with
  | error st => cases h1
  | ok j => cases h1; rfl

/-! ### Witnesses: sessions -/

/-- Session 0101h open on L0, nothing else. -/
def oneSession : State := part [] [(0, openOn 0 plainRecord)] []

theorem witness_open : ∃ s p r lease ordered label j, engineTakes s p r ∧
    r.request = .openSession lease ordered label ∧ (∀ l, lease = some l → 50 ≤ l ∧ l ≤ 60000) ∧
    (∀ l, label = some l → l.length ≤ 12) ∧ (s.coord.sess j).body = none ∧
    (∀ k, k < j → (s.coord.sess k).body ≠ none) :=
  ⟨asking (.openSession (some 60000) none (some (List.replicate 12 65))) oneSession, 0,
    asked (.openSession (some 60000) none (some (List.replicate 12 65))), _, _, _, 1, takes_of (by decide +kernel), rfl,
    by intro l h; cases h; decide, by intro l h; cases h; decide, by decide +kernel, by decide +kernel⟩

/-- Session 0101h ORPHANED. -/
def oneOrphan : State := part [] [(0, ⟨1, some ⟨true, 2, plainRecord, .clean⟩⟩)] []

theorem witness_resume : ∃ s p r j b, engineTakes s p r ∧ r.request = .resume ∧
    r.header.session = s.coord.sessHandle j ∧ (s.coord.sess j).body = some b ∧ b.orphaned = true ∧ b.health = .clean :=
  ⟨asking .resume oneOrphan, 0, asked .resume, 0, ⟨true, 2, plainRecord, .clean⟩, takes_of (by decide +kernel), rfl,
    by decide +kernel, by decide +kernel, rfl, rfl⟩

theorem witness_renew : ∃ s p r j x, engineTakes s p r ∧ r.request = .renew ∧ sessionServed s r j x :=
  ⟨asking .renew oneSession, 0, asked .renew, 0, plainRecord, takes_of (by decide +kernel), rfl,
    served_of (by decide +kernel)⟩

theorem witness_close_idle : ∃ s p r j x, engineTakes s p r ∧ r.request = .close ∧ sessionServed s r j x ∧
    x.holds = [] ∧ ownsNoWait s j :=
  ⟨asking .close oneSession, 0, asked .close, 0, plainRecord, takes_of (by decide +kernel), rfl,
    served_of (by decide +kernel), rfl, ownsNoWait_of (by decide +kernel)⟩

/-- The handle of entry 0 at generation 1. -/
def handle0 : Handle := ⟨0, 1⟩

/-- The handle of entry 1 at generation 1. -/
def handle1 : Handle := ⟨1, 1⟩

/-- A record with a hold on the lock 0100h. -/
def holdingRecord : SessRecord := { plainRecord with holds := [handle0] }

/-- The lock 0100h held EXCLUSIVE by the session of entry `j`. -/
def heldLock (j : SessIx) : LockRecord := ⟨5, 8, .exclusive, [j], [], false⟩

/-- Session 0101h holds the lock 0100h. -/
def oneHold : State := part [(0, lockEntry (heldLock 0))] [(0, openOn 0 holdingRecord)] []

theorem witness_close_hold : ∃ s p r j x h name l, engineTakes s p r ∧ r.request = .close ∧ sessionServed s r j x ∧
    x.holds = [h] ∧ ownsNoWait s j ∧ namesObject s h ⟨name, .lock l⟩ ∧ l.holders = [j] ∧ l.queue = [] :=
  ⟨asking .close oneHold, 0, asked .close, 0, holdingRecord, handle0, [97], heldLock 0, takes_of (by decide +kernel), rfl,
    served_of (by decide +kernel), rfl, ownsNoWait_of (by decide +kernel), by unfold namesObject; decide +kernel, rfl,
    rfl⟩

theorem witness_list_sessions : ∃ s p r j x start want, engineTakes s p r ∧ r.request = .listSessions start want ∧
    sessionServed s r j x ∧ sessionsClean s :=
  ⟨asking (.listSessions 32 (some true)) oneSession, 0, asked (.listSessions 32 (some true)), 0, plainRecord, 32,
    some true, takes_of (by decide +kernel), rfl, served_of (by decide +kernel), sessionsClean_of (by decide +kernel)⟩

/-! ### Witnesses: objects -/

/-- A lock and a counter, both idle, and a FAULTED entry, with session 0101h open on L0. -/
def twoObjects : State :=
  part [(0, lockEntry freeLock), (1, counterEntry ⟨100, 3, []⟩), (2, ⟨4, .faulted⟩)] [(0, openOn 0 plainRecord)] []

theorem twoObjects_clean : objectsClean twoObjects := objectsClean_of (by decide +kernel)

theorem twoObjects_names : ∀ k o, twoObjects.coord.record? k = some o → o.name = [97] ∨ o.name = [110] := by
  intro k o h
  have := noObject_of (f := fun o => o.name != [97] && o.name != [110]) (by decide +kernel) k o h
  by_cases h1 : o.name = [97] <;> simp_all

/-- No object of `twoObjects` has a name other than its two. -/
theorem twoObjects_lacks {name : List Byte} (h1 : name ≠ [97]) (h2 : name ≠ [110]) :
    ∀ k o, twoObjects.coord.record? k = some o → o.name ≠ name := by
  intro k o h e
  rcases twoObjects_names k o h with h | h <;> simp_all

theorem witness_create_lock : ∃ s p r j x name oie rank cap i, engineTakes s p r ∧
    r.request = .create 1 name oie rank cap none none ∧ sessionServed s r j x ∧ objectsClean s ∧ 1 ≤ name.length ∧
    name.length ≤ 16 ∧ (∀ n : Byte, cap = some n → 1 ≤ n.toNat ∧ n.toNat ≤ 8) ∧
    (∀ k o, s.coord.record? k = some o → o.name ≠ name) ∧ (s.coord.obj i).body = .free ∧
    (∀ k, k < i → (s.coord.obj k).body ≠ .free) :=
  ⟨asking (.create 1 [120] true (some 255) (some 8) none none) twoObjects, 0,
    asked (.create 1 [120] true (some 255) (some 8) none none), 0, plainRecord, [120], true, some 255, some 8, 3,
    takes_of (by decide +kernel), rfl, served_of (by decide +kernel), twoObjects_clean, by decide,
    by decide, by intro n h; cases h; decide,
    twoObjects_lacks (by decide) (by decide),
    by decide +kernel, by decide +kernel⟩

theorem witness_create_counter : ∃ s p r j x name oie ceil init i, engineTakes s p r ∧
    r.request = .create 2 name oie none none ceil init ∧ sessionServed s r j x ∧ objectsClean s ∧ 1 ≤ name.length ∧
    name.length ≤ 16 ∧ 1 ≤ ceil.getD Config.maxU32 ∧ init.getD 0 ≤ ceil.getD Config.maxU32 ∧
    (∀ k o, s.coord.record? k = some o → o.name ≠ name) ∧ (s.coord.obj i).body = .free ∧
    (∀ k, k < i → (s.coord.obj k).body ≠ .free) :=
  ⟨asking (.create 2 [120] false none none (some 9) (some 9)) twoObjects, 0,
    asked (.create 2 [120] false none none (some 9) (some 9)), 0, plainRecord, [120], false, some 9, some 9, 3,
    takes_of (by decide +kernel), rfl, served_of (by decide +kernel), twoObjects_clean, by decide,
    by decide, by decide, by decide,
    twoObjects_lacks (by decide) (by decide),
    by decide +kernel, by decide +kernel⟩

/-- A CREATE that fails its field checks: a kind that is neither, a field of the other kind, a name of 0 and of 17 bytes,
a capacity of 0 and of 9, a ceiling of 0, and a value above the ceiling. -/
theorem witness_create_misfit : ∀ q ∈ [((3 : Byte), [(120 : Byte)], (none : Option Byte), (none : Option Byte),
      (none : Option Nat), (none : Option Nat)),
      (1, [120], none, none, some 9, none), (2, [120], some 1, none, none, none), (1, [], none, none, none, none),
      (1, List.replicate 17 120, none, none, none, none), (1, [120], none, some 0, none, none),
      (1, [120], none, some 9, none, none), (2, [120], none, none, some 0, none),
      (2, [120], none, none, some 9, some 10)],
    ∃ s p r j x oie, engineTakes s p r ∧ r.request = .create q.1 q.2.1 oie q.2.2.1 q.2.2.2.1 q.2.2.2.2.1 q.2.2.2.2.2 ∧
      sessionServed s r j x ∧ ¬ createAllowed q.1 q.2.1 q.2.2.1 q.2.2.2.1 q.2.2.2.2.1 q.2.2.2.2.2 := by
  intro q hq
  refine ⟨asking (.create q.1 q.2.1 false q.2.2.1 q.2.2.2.1 q.2.2.2.2.1 q.2.2.2.2.2) twoObjects, 0,
    asked (.create q.1 q.2.1 false q.2.2.1 q.2.2.2.1 q.2.2.2.2.1 q.2.2.2.2.2), 0, plainRecord, false, ?_⟩
  simp only [List.mem_cons, List.not_mem_nil, or_false] at hq
  rcases hq with rfl | rfl | rfl | rfl | rfl | rfl | rfl | rfl | rfl <;>
    refine ⟨takes_of (by decide +kernel), rfl, served_of (by decide +kernel), ?_⟩ <;> simp [createAllowed]

/-- The object table is full of locks named "a". -/
def fullTable : State :=
  oneSession.setCoord { oneSession.coord with objects := Vector.replicate 256 (lockEntry freeLock) }

/-- A CREATE in a full table; and, where open-if-exists is clear or set, one of either kind under the name of a LIVE
lock. -/
theorem witness_create_refused : (∃ s p r j x kind name oie rank cap ceil init, engineTakes s p r ∧
      r.request = .create kind name oie rank cap ceil init ∧ sessionServed s r j x ∧ objectsClean s ∧
      createAllowed kind name rank cap ceil init ∧ (∀ k o, s.coord.record? k = some o → o.name ≠ name) ∧
      ∀ k, (s.coord.obj k).body ≠ .free) ∧
    ∀ q ∈ [(1, false), (1, true), (2, true)], ∃ s p r j x name rank cap ceil init i o, engineTakes s p r ∧
      r.request = .create q.1 name q.2 rank cap ceil init ∧ sessionServed s r j x ∧ objectsClean s ∧
      createAllowed q.1 name rank cap ceil init ∧ s.coord.record? i = some o ∧ o.name = name ∧
      (∀ k u, k < i → s.coord.record? k = some u → u.name ≠ name) ∧ o.kind.field = .lock := by
  refine ⟨⟨asking (.create 1 [120] true none none none none) fullTable, 0,
    asked (.create 1 [120] true none none none none), 0, plainRecord, 1, [120], true, none, none, none, none,
    takes_of (by decide +kernel), rfl, served_of (by decide +kernel), objectsClean_of (by decide +kernel),
    by unfold createAllowed; decide +kernel, ?_, by decide +kernel⟩, ?_⟩
  · intro k o h e
    have := noObject_of (s := fullTable) (f := fun o => o.name == [120]) (by decide +kernel) k o h
    simp [e] at this
  · have key : ∀ q ∈ [((1 : Byte), false), (1, true), (2, true)],
        let req : Request := .create q.1 [97] q.2 none none none none
        offer? .engine (asking req twoObjects).engineLast (asking req twoObjects) = some (asked req) ∧
        (match sessionCheck ((asked req).request == .resume) (asked req).header.session (asked req).link
          (asking req twoObjects).coord with
        | .ok j => some j
        | .error _ => none) = some 0 := by decide +kernel
    have ok : ∀ q ∈ [((1 : Byte), false), (1, true), (2, true)], createAllowed q.1 [97] none none none none := by
      unfold createAllowed; decide +kernel
    intro q hq
    exact ⟨asking (.create q.1 [97] q.2 none none none none) twoObjects, 0,
      asked (.create q.1 [97] q.2 none none none none), 0, plainRecord, [97], none, none, none, none, 0,
      ⟨[97], .lock freeLock⟩, ⟨(key q hq).1, rfl⟩, rfl,
      served_of ⟨(key q hq).2, by show (twoObjects.coord.sess 0).body = _; decide +kernel⟩, twoObjects_clean, ok q hq,
      by show twoObjects.coord.record? 0 = _; decide +kernel, rfl, by intro k u hk; exact absurd hk (by simp), rfl⟩

theorem witness_find : ∃ s p r j x name i o, engineTakes s p r ∧ r.request = .find name ∧ sessionServed s r j x ∧
    objectsClean s ∧ 1 ≤ name.length ∧ name.length ≤ 16 ∧ s.coord.record? i = some o ∧ o.name = name ∧
    (∀ k u, k < i → s.coord.record? k = some u → u.name ≠ name) :=
  ⟨asking (.find [97]) twoObjects, 0, asked (.find [97]), 0, plainRecord, [97], 0, ⟨[97], .lock freeLock⟩,
    takes_of (by decide +kernel), rfl, served_of (by decide +kernel), twoObjects_clean, by decide,
    by decide, by decide +kernel, rfl, by intro k u hk; exact absurd hk (by simp)⟩

theorem witness_find_nothing : ∃ s p r j x name, engineTakes s p r ∧ r.request = .find name ∧ sessionServed s r j x ∧
    objectsClean s ∧ 1 ≤ name.length ∧ name.length ≤ 16 ∧ (∀ k u, s.coord.record? k = some u → u.name ≠ name) :=
  ⟨asking (.find (List.replicate 16 90)) twoObjects, 0, asked (.find (List.replicate 16 90)), 0, plainRecord,
    List.replicate 16 90, takes_of (by decide +kernel), rfl, served_of (by decide +kernel),
    twoObjects_clean, by decide, by decide,
    twoObjects_lacks (by decide) (by decide)⟩

theorem witness_delete : (∃ s p r j x h force o, engineTakes s p r ∧ r.request = .delete h force ∧
      sessionServed s r j x ∧ h.gen ≠ 0 ∧ (s.coord.obj h.objIx).gen = h.gen ∧
      (s.coord.obj h.objIx).body = .live o .clean ∧ force = false ∧ o.kind.inUse = false) ∧
    ∃ s p r j x h force, engineTakes s p r ∧ r.request = .delete h force ∧ sessionServed s r j x ∧ h.gen ≠ 0 ∧
      (s.coord.obj h.objIx).gen = h.gen ∧ (s.coord.obj h.objIx).body = .faulted :=
  ⟨⟨asking (.delete handle0 false) twoObjects, 0, asked (.delete handle0 false), 0, plainRecord, handle0, false,
      ⟨[97], .lock freeLock⟩, takes_of (by decide +kernel), rfl, served_of (by decide +kernel), by decide,
      by decide +kernel, by decide +kernel, rfl, rfl⟩,
    ⟨asking (.delete ⟨2, 4⟩ true) twoObjects, 0, asked (.delete ⟨2, 4⟩ true), 0, plainRecord, ⟨2, 4⟩, true,
      takes_of (by decide +kernel), rfl, served_of (by decide +kernel), by decide, by decide +kernel,
      by decide +kernel⟩⟩

/-- Session 0202h of L1 holds the lock 0100h, and session 0101h is open on L0. -/
def otherHolds : State :=
  part [(0, lockEntry (heldLock 1))] [(0, openOn 0 plainRecord), (1, openOn 1 holdingRecord)] []

theorem witness_force_delete : ∃ s p r j k x b h name l, engineTakes s p r ∧ r.request = .delete h true ∧
    sessionServed s r j x ∧ namesObject s h ⟨name, .lock l⟩ ∧ l.holders = [k] ∧ l.queue = [] ∧ k ≠ j ∧
    (s.coord.sess k).body = some b ∧ b.health = .clean ∧ h ∈ b.record.holds :=
  ⟨asking (.delete handle0 true) otherHolds, 0, asked (.delete handle0 true), 0, 1, plainRecord,
    ⟨false, 1, holdingRecord, .clean⟩, handle0, [97], heldLock 1, takes_of (by decide +kernel), rfl,
    served_of (by decide +kernel), by unfold namesObject; decide +kernel, rfl, rfl, by decide, by decide +kernel, rfl,
    by decide⟩

/-- Session 0202h of L1 holds the lock 0100h, session 0303h of L1 waits for it, and session 0101h is open on L0. -/
def otherWaits : State :=
  part [(0, lockEntry { heldLock 1 with queue := [⟨0, 1⟩] })]
    [(0, openOn 0 plainRecord), (1, openOn 1 holdingRecord), (2, openOn 1 { plainRecord with lockWaits := 1 })]
    [(0, ⟨1, some ⟨2, handle0, .shared, none, 9, none⟩⟩)]

/-- The force-deletion of a lock with a holder and a waiter. -/
theorem witness_force_delete_wait : ∃ (s : State) (p : Link) (r : Presented) (j m k : SessIx) (x : SessRecord)
    (u b : SessCurrent) (h : Handle) (name : List Byte) (w : WaitIx) (y : WaitRecord) (l : LockRecord),
    engineTakes s p r ∧ r.request = .delete h true ∧ sessionServed s r j x ∧ (s.coord.wait w).body = some y ∧
    y.object = h ∧ y.owner = m ∧ m ≠ j ∧ (s.coord.sess m).body = some u ∧ u.health = .clean ∧
    namesObject s h ⟨name, .lock l⟩ ∧ l.holders = [k] ∧ l.queue = [waitHandle w (s.coord.wait w).gen] ∧ k ≠ j ∧
    k ≠ m ∧ (s.coord.sess k).body = some b ∧ b.health = .clean ∧ h ∈ b.record.holds :=
  ⟨asking (.delete handle0 true) otherWaits, 0, asked (.delete handle0 true), 0, 2, 1, plainRecord,
    ⟨false, 1, { plainRecord with lockWaits := 1 }, .clean⟩, ⟨false, 1, holdingRecord, .clean⟩, handle0, [97], 0,
    ⟨2, handle0, .shared, none, 9, none⟩, { heldLock 1 with queue := [⟨0, 1⟩] }, takes_of (by decide +kernel), rfl,
    served_of (by decide +kernel), by decide +kernel, rfl, rfl, by decide, by decide +kernel, rfl,
    by unfold namesObject; decide +kernel, rfl, by decide +kernel, by decide, by decide, by decide +kernel, rfl,
    by decide⟩

theorem witness_describe : (∃ s p r j x h name l, engineTakes s p r ∧ r.request = .describe h ∧
      sessionServed s r j x ∧ namesObject s h ⟨name, .lock l⟩) ∧
    ∃ s p r j x h name k, engineTakes s p r ∧ r.request = .describe h ∧ sessionServed s r j x ∧
      namesObject s h ⟨name, .counter k⟩ :=
  ⟨⟨asking (.describe handle0) twoObjects, 0, asked (.describe handle0), 0, plainRecord, handle0, [97], freeLock,
      takes_of (by decide +kernel), rfl, served_of (by decide +kernel), by unfold namesObject; decide +kernel⟩,
    ⟨asking (.describe handle1) twoObjects, 0, asked (.describe handle1), 0, plainRecord, handle1, [110],
      ⟨100, 3, []⟩, takes_of (by decide +kernel), rfl, served_of (by decide +kernel),
      by unfold namesObject; decide +kernel⟩⟩

theorem witness_list_objects : ∃ s p r j x start, engineTakes s p r ∧ r.request = .listObjects start ∧
    sessionServed s r j x ∧ objectsClean s :=
  ⟨asking (.listObjects 255) twoObjects, 0, asked (.listObjects 255), 0, plainRecord, 255, takes_of (by decide +kernel),
    rfl, served_of (by decide +kernel), twoObjects_clean⟩

/-! ### Witnesses: locks -/

theorem witness_acquire_granted : ∃ s p r j x h mode try_ deadline name l, engineTakes s p r ∧
    r.request = .acquire h mode try_ deadline ∧ sessionServed s r j x ∧ namesObject s h ⟨name, .lock l⟩ ∧
    (∀ d, deadline = some d → 1 ≤ d ∧ d ≤ 65535) ∧ h ∉ x.holds ∧ notWaitingOn s j h ∧
    x.holds.length + x.lockWaits < 8 ∧ x.ordered = false ∧ l.queue = [] ∧
    2 * x.lockWaits + x.counterWaits + x.holds.length + (s.coord.box j).queue.length < 32 ∧
    (mode = 0 ∧ l.mode = .free ∨
      mode = 1 ∧ (l.mode = .free ∨ l.mode = .shared ∧ l.holders.length < l.capacity)) :=
  ⟨asking (.acquire handle0 0 true (some 65535)) twoObjects, 0, asked (.acquire handle0 0 true (some 65535)), 0,
    plainRecord, handle0, 0, true, some 65535, [97], freeLock, takes_of (by decide +kernel), rfl,
    served_of (by decide +kernel), by unfold namesObject; decide +kernel, by intro d h; cases h; decide, by decide,
    notWaitingOn_of (by decide +kernel), by decide, rfl, rfl, by decide +kernel, Or.inl (by decide)⟩

theorem witness_acquire_queued : ∃ s p r j x h mode deadline name l w, engineTakes s p r ∧
    r.request = .acquire h mode false deadline ∧ sessionServed s r j x ∧ namesObject s h ⟨name, .lock l⟩ ∧
    (∀ d, deadline = some d → 1 ≤ d ∧ d ≤ 65535) ∧ h ∉ x.holds ∧ notWaitingOn s j h ∧
    x.holds.length + x.lockWaits < 8 ∧ x.ordered = false ∧
    2 * x.lockWaits + x.counterWaits + x.holds.length + (s.coord.box j).queue.length < 31 ∧ lowestFreeWait s w ∧
    (mode = 0 ∧ (l.queue ≠ [] ∨ l.mode ≠ .free) ∨
      mode = 1 ∧ (l.queue ≠ [] ∨ l.mode = .exclusive ∨ l.mode = .shared ∧ l.capacity ≤ l.holders.length)) :=
  ⟨asking (.acquire handle0 1 false none) otherHolds, 0, asked (.acquire handle0 1 false none), 0, plainRecord, handle0,
    1, none, [97], heldLock 1, 0, takes_of (by decide +kernel), rfl, served_of (by decide +kernel),
    by unfold namesObject; decide +kernel, (by intro d h; cases h), by decide, notWaitingOn_of (by decide +kernel),
    by decide, rfl, by decide +kernel, by unfold lowestFreeWait; decide +kernel, Or.inr (by decide)⟩

/-- An ordered session that holds the lock 0100h of rank 5, and a lock 0101h of rank 5. -/
def orderedHolder : State :=
  part [(0, lockEntry (heldLock 0)), (1, lockEntry freeLock)]
    [(0, openOn 0 { holdingRecord with ordered := true })] []

theorem witness_ordered_acquire : ∃ s p r j x h g mode try_ deadline name name' l m, engineTakes s p r ∧
    r.request = .acquire h mode try_ deadline ∧ sessionServed s r j x ∧ namesObject s h ⟨name, .lock l⟩ ∧
    namesObject s g ⟨name', .lock m⟩ ∧ (∀ d, deadline = some d → 1 ≤ d ∧ d ≤ 65535) ∧ (mode = 0 ∨ mode = 1) ∧
    x.holds = [g] ∧ h ≠ g ∧ ownsNoWait s j ∧ x.lockWaits < 7 ∧ x.ordered = true ∧ l.rank.toNat ≤ m.rank.toNat :=
  ⟨asking (.acquire handle1 0 false none) orderedHolder, 0, asked (.acquire handle1 0 false none), 0,
    { holdingRecord with ordered := true }, handle1, handle0, 0, false, none, [97], [97], freeLock, heldLock 0,
    takes_of (by decide +kernel), rfl, served_of (by decide +kernel), by unfold namesObject; decide +kernel,
    by unfold namesObject; decide +kernel, (by intro d h; cases h), Or.inl rfl, rfl, by decide,
    ownsNoWait_of (by decide +kernel), by decide, rfl, by decide⟩

theorem witness_release : ∃ s p r j x h repaired name l, engineTakes s p r ∧ r.request = .release h repaired ∧
    sessionServed s r j x ∧ namesObject s h ⟨name, .lock l⟩ ∧ h ∈ x.holds ∧ l.queue = [] :=
  ⟨asking (.release handle0 true) oneHold, 0, asked (.release handle0 true), 0, holdingRecord, handle0, true, [97],
    heldLock 0, takes_of (by decide +kernel), rfl, served_of (by decide +kernel), by unfold namesObject; decide +kernel,
    by decide, rfl⟩

theorem witness_release_not_held : ∃ s p r j x h repaired name l, engineTakes s p r ∧
    r.request = .release h repaired ∧ sessionServed s r j x ∧ namesObject s h ⟨name, .lock l⟩ ∧ h ∉ x.holds :=
  ⟨asking (.release handle0 true) otherHolds, 0, asked (.release handle0 true), 0, plainRecord, handle0, true, [97],
    heldLock 1, takes_of (by decide +kernel), rfl, served_of (by decide +kernel), by unfold namesObject; decide +kernel,
    by decide⟩

/-- A NOT_HELD reply reports the abandoned flag of the lock, as every RELEASE reply does (R36). -/
theorem test_not_held_flag :
    let s := part [(0, lockEntry { heldLock 1 with abandoned := true })]
      [(0, openOn 0 plainRecord), (1, openOn 1 holdingRecord)] []
    replyOf (after (.release 0) (asking (.release handle0 false) s)) = some (.release .notHeld 0 true) := by
  decide +kernel

/-- The id of wait record 0 at generation 1. -/
def wait0 : Handle := ⟨0, 1⟩

/-- Session 0202h of L1 waits for the lock 0100h, which session 0101h holds. -/
def oneWaiter : State :=
  part [(0, lockEntry { heldLock 0 with queue := [wait0] })]
    [(0, openOn 0 holdingRecord), (1, openOn 1 { plainRecord with lockWaits := 1 })]
    [(0, ⟨1, some ⟨1, handle0, .shared, none, 9, none⟩⟩)]

theorem witness_release_grants : ∃ s p r j k x b h name l w y, engineTakes s p r ∧ r.request = .release h false ∧
    sessionServed s r j x ∧ namesObject s h ⟨name, .lock l⟩ ∧ x.holds = [h] ∧ l.holders = [j] ∧
    l.queue = [waitHandle w (s.coord.wait w).gen] ∧ (s.coord.wait w).body = some y ∧ y.owner = k ∧ k ≠ j ∧
    y.object = h ∧ (y.kind = .exclusive ∨ y.kind = .shared) ∧ (s.coord.sess k).body = some b ∧ b.health = .clean :=
  ⟨asking (.release handle0 false) oneWaiter, 0, asked (.release handle0 false), 0, 1, holdingRecord,
    ⟨false, 1, { plainRecord with lockWaits := 1 }, .clean⟩, handle0, [97], { heldLock 0 with queue := [wait0] }, 0,
    ⟨1, handle0, .shared, none, 9, none⟩, takes_of (by decide +kernel), rfl, served_of (by decide +kernel),
    by unfold namesObject; decide +kernel, rfl, rfl, by decide +kernel, by decide +kernel, rfl, by decide, rfl,
    Or.inr rfl, by decide +kernel, rfl⟩

/-- Session 0101h waits for the lock 0100h, which session 0202h holds, and for the counter 0101h. -/
def ownWaits : State :=
  part [(0, lockEntry { heldLock 1 with queue := [wait0] }), (1, counterEntry ⟨100, 3, [⟨1, 1⟩]⟩)]
    [(0, openOn 0 { plainRecord with lockWaits := 1, counterWaits := 1 }), (1, openOn 1 holdingRecord)]
    [(0, ⟨1, some ⟨0, handle0, .exclusive, none, 9, none⟩⟩), (1, ⟨1, some ⟨0, handle1, .atLeast 5 true, some 0, 9, none⟩⟩)]

theorem witness_cancel :
    (∃ (s : State) (p : Link) (r : Presented) (j : SessIx) (x : SessRecord) (w : WaitIx) (y : WaitRecord)
      (name : List Byte) (l : LockRecord), engineTakes s p r ∧
      r.request = .cancel (waitHandle w (s.coord.wait w).gen) ∧ sessionServed s r j x ∧ (s.coord.wait w).gen ≠ 0 ∧
      (s.coord.wait w).body = some y ∧ y.owner = j ∧ namesObject s y.object ⟨name, .lock l⟩ ∧ y.kind.isLock = true ∧
      l.queue = [waitHandle w (s.coord.wait w).gen]) ∧
    ∃ (s : State) (p : Link) (r : Presented) (j : SessIx) (x : SessRecord) (w : WaitIx) (y : WaitRecord)
      (name : List Byte) (k : CounterRecord), engineTakes s p r ∧
      r.request = .cancel (waitHandle w (s.coord.wait w).gen) ∧ sessionServed s r j x ∧ (s.coord.wait w).gen ≠ 0 ∧
      (s.coord.wait w).body = some y ∧ y.owner = j ∧ namesObject s y.object ⟨name, .counter k⟩ ∧
      y.kind.isLock = false :=
  ⟨⟨asking (.cancel wait0) ownWaits, 0, asked (.cancel wait0), 0, { plainRecord with lockWaits := 1, counterWaits := 1 },
      0, ⟨0, handle0, .exclusive, none, 9, none⟩, [97], { heldLock 1 with queue := [wait0] },
      takes_of (by decide +kernel), by decide +kernel, served_of (by decide +kernel), by decide +kernel,
      by decide +kernel, rfl, by unfold namesObject; decide +kernel, rfl, by decide +kernel⟩,
    ⟨asking (.cancel ⟨1, 1⟩) ownWaits, 0, asked (.cancel ⟨1, 1⟩), 0,
      { plainRecord with lockWaits := 1, counterWaits := 1 }, 1, ⟨0, handle1, .atLeast 5 true, some 0, 9, none⟩, [110],
      ⟨100, 3, [⟨1, 1⟩]⟩, takes_of (by decide +kernel), by decide +kernel, served_of (by decide +kernel),
      by decide +kernel, by decide +kernel, rfl, by unfold namesObject; decide +kernel, rfl⟩⟩

/-- Session 0101h holds the lock 0100h and waits for the lock 0101h; session 0202h, whose record is uncorrectable, holds
0101h and waits for 0100h. -/
def crossed : State :=
  part [(0, lockEntry { heldLock 0 with queue := [⟨1, 1⟩] }), (1, lockEntry { heldLock 1 with queue := [wait0] })]
    [(0, openOn 0 { holdingRecord with lockWaits := 1 }),
      (1, ⟨1, some ⟨false, 1, { plainRecord with holds := [handle1], lockWaits := 1 }, .uncorrectable⟩⟩)]
    [(0, ⟨1, some ⟨0, handle1, .exclusive, none, 9, none⟩⟩), (1, ⟨1, some ⟨1, handle0, .exclusive, none, 9, none⟩⟩)]

/-- What a test looks at of a lock. -/
def lockView (c : Coord) (i : ObjIx) : Option (LockMode × List SessIx × List Handle × Bool) :=
  (c.lock? i).map fun l => (l.mode, l.holders, l.queue, l.abandoned)

/-- The first pass of a CLOSE of session 0101h finds the other session's record uncorrectable: its teardown frees 0101h,
abandoned, and does not grant it to the session that closes (R38, R90). -/
theorem test_close_receives_no_grant :
    lockView (handlerClosing 0 (.sess 1) crossed.coord) 1 = some (.free, [], [wait0], true) := by decide +kernel

/-- In any other event the same teardown grants it (R41). -/
theorem test_teardown_grants :
    lockView (handler (.sess 1) crossed.coord) 1 = some (.exclusive, [0], [], true) := by decide +kernel

/-! ### Witnesses: counters -/

/-- The conditions common to the counter requests are met by L0's request `req` on the counter 0101h of value 3 and
ceiling 100, without waiters. -/
theorem witness_counter_request (req : Request)
    (h : offer? .engine (asking req twoObjects).engineLast (asking req twoObjects) = some (asked req))
    (hs : (match sessionCheck ((asked req).request == .resume) (asked req).header.session (asked req).link
        (asking req twoObjects).coord with
      | .ok j => some j
      | .error _ => none) = some 0) :
    ∃ s p r j x h name k, engineTakes s p r ∧ sessionServed s r j x ∧ namesObject s h ⟨name, .counter k⟩ ∧
      k.waiters = [] ∧ r.request = req ∧ h = handle1 ∧ k.value = 3 ∧ k.ceiling = 100 :=
  ⟨asking req twoObjects, 0, asked req, 0, plainRecord, handle1, [110], ⟨100, 3, []⟩, ⟨h, rfl⟩,
    served_of ⟨hs, by show (twoObjects.coord.sess 0).body = _; decide +kernel⟩,
    ⟨by decide, by show twoObjects.coord.obj _ = _; decide +kernel⟩, rfl, rfl, rfl, rfl, rfl⟩

/-- COUNT_READ; COUNT_SET at the ceiling and above it; COUNT_ADD to the ceiling, to 0, above and below; COUNT_SWAP at the
ceiling and above it; COUNT_RAISE at the ceiling and above it; COUNT_LOWER below the value. -/
def counterRequests : List Request :=
  [.countRead handle1, .countSet handle1 100, .countSet handle1 101, .countAdd handle1 97, .countAdd handle1 (-3),
    .countAdd handle1 98, .countAdd handle1 (-4), .countSwap handle1 3 100, .countSwap handle1 3 101,
    .countRaise handle1 100, .countRaise handle1 101, .countLower handle1 2]

theorem witness_counters : ∀ req ∈ counterRequests,
    ∃ s p r j x h name k, engineTakes s p r ∧ sessionServed s r j x ∧ namesObject s h ⟨name, .counter k⟩ ∧
      k.waiters = [] ∧ r.request = req ∧ h = handle1 ∧ k.value = 3 ∧ k.ceiling = 100 := by
  have key : ∀ req ∈ counterRequests,
      offer? .engine (asking req twoObjects).engineLast (asking req twoObjects) = some (asked req) ∧
      (match sessionCheck ((asked req).request == .resume) (asked req).header.session (asked req).link
        (asking req twoObjects).coord with
      | .ok j => some j
      | .error _ => none) = some 0 := by decide +kernel
  intro req h
  exact witness_counter_request req (key req h).1 (key req h).2

/-- Session 0202h of L1 awaits the counter 0101h of value 3 at 5, with take; session 0101h is open on L0. -/
def countWaiter : State :=
  part [(1, counterEntry ⟨100, 3, [wait0]⟩)] [(0, openOn 0 plainRecord), (1, openOn 1 { plainRecord with counterWaits := 1 })]
    [(0, ⟨1, some ⟨1, handle1, .atLeast 5 true, some 0, 9, none⟩⟩)]

theorem witness_rising_count : ∃ (s : State) (p : Link) (r : Presented) (j m : SessIx) (x : SessRecord)
    (b : SessCurrent) (h : Handle) (d : Int) (v : Nat) (name : List Byte) (k : CounterRecord) (w : WaitIx)
    (y : WaitRecord) (threshold : Nat) (take : Bool), engineTakes s p r ∧ r.request = .countAdd h d ∧
    sessionServed s r j x ∧ namesObject s h ⟨name, .counter k⟩ ∧ (k.value : Int) + d = v ∧ v ≤ k.ceiling ∧
    k.value < v ∧ k.waiters = [waitHandle w (s.coord.wait w).gen] ∧ (s.coord.wait w).body = some y ∧
    y.kind = .atLeast threshold take ∧ threshold ≤ v ∧ y.object = h ∧ y.owner = m ∧ m ≠ j ∧
    (s.coord.sess m).body = some b ∧ b.health = .clean :=
  ⟨asking (.countAdd handle1 2) countWaiter, 0, asked (.countAdd handle1 2), 0, 1, plainRecord,
    ⟨false, 1, { plainRecord with counterWaits := 1 }, .clean⟩, handle1, 2, 5, [110], ⟨100, 3, [wait0]⟩, 0,
    ⟨1, handle1, .atLeast 5 true, some 0, 9, none⟩, 5, true, takes_of (by decide +kernel), rfl,
    served_of (by decide +kernel), by unfold namesObject; decide +kernel, by decide, by decide, by decide,
    by decide +kernel, by decide +kernel, rfl, by decide, rfl, rfl, by decide, by decide +kernel, rfl⟩

theorem witness_await_at_once : ∃ s p r j x h threshold take try_ deadline name k, engineTakes s p r ∧
    r.request = .await h threshold take try_ deadline ∧ sessionServed s r j x ∧ namesObject s h ⟨name, .counter k⟩ ∧
    (∀ d, deadline = some d → 1 ≤ d ∧ d ≤ 65535) ∧ notWaitingOn s j h ∧ 1 ≤ threshold ∧ threshold ≤ k.ceiling ∧
    threshold ≤ k.value :=
  ⟨asking (.await handle1 3 true false (some 1)) twoObjects, 0, asked (.await handle1 3 true false (some 1)), 0,
    plainRecord, handle1, 3, true, false, some 1, [110], ⟨100, 3, []⟩, takes_of (by decide +kernel), rfl,
    served_of (by decide +kernel), by unfold namesObject; decide +kernel, by intro d h; cases h; decide,
    notWaitingOn_of (by decide +kernel), by decide, by decide, by decide⟩

theorem witness_await_queued : ∃ s p r j x h threshold take deadline name k w, engineTakes s p r ∧
    r.request = .await h threshold take false deadline ∧ sessionServed s r j x ∧ namesObject s h ⟨name, .counter k⟩ ∧
    (∀ d, deadline = some d → 1 ≤ d ∧ d ≤ 65535) ∧ notWaitingOn s j h ∧ threshold ≤ k.ceiling ∧ k.value < threshold ∧
    2 * x.lockWaits + x.counterWaits + x.holds.length + (s.coord.box j).queue.length < 32 ∧ lowestFreeWait s w :=
  ⟨asking (.await handle1 100 false false none) countWaiter, 0, asked (.await handle1 100 false false none), 0,
    plainRecord, handle1, 100, false, none, [110], ⟨100, 3, [wait0]⟩, 1, takes_of (by decide +kernel), rfl,
    served_of (by decide +kernel), by unfold namesObject; decide +kernel, (by intro d h; cases h),
    notWaitingOn_of (by decide +kernel), by decide, by decide, by decide +kernel,
    by unfold lowestFreeWait; decide +kernel⟩

/-! ### Witnesses: the device requests -/

/-- L0 and L1 UP, L2 FAILED with its holdoff expired, L3 OFF; L0 is the management link. -/
def deviceState : State :=
  (oneSession.setPort 2 { Port.initial with state := .failed, laneReady := true }).setPort 3
    { Port.initial with state := .off }

/-- Every device request, with parameter ids, values, groups, links and scopes at the ends of their ranges. -/
def deviceRequests : List Request :=
  [.identify, .paramGet 0, .paramGet 1, .paramGet 9, .paramGet 10, .paramSet 0 0, .paramSet 10 0, .paramSet 2 49,
    .paramSet 2 60001, .paramSet 9 63, .statsGet 0 true, .statsGet 3 false, .statsGet 4 true, .linkControl 2 0,
    .linkControl 1 0, .linkControl 1 1, .linkControl 3 1, .linkControl 0 1, .deviceReset 0, .deviceReset 1]

/-- Meets the hypotheses of IdentifyReportsEpochAndCause, ParamGetReportsValue, the first refusals of
ParamSetReplacesOrRefuses, StatsGetReportsAndClears, LinkControlStartsAndStopsPort and DeviceResetBecomesPending. -/
theorem witness_device_requests : ∀ req ∈ deviceRequests, ∃ s r, mgmtTakes s 0 r ∧ r.request = req ∧
    (s.port 1).state = .up ∧ (s.port 2).state = .failed ∧ (s.port 2).laneReady = true ∧ (s.port 3).state = .off := by
  have key : ∀ req ∈ deviceRequests, offer? .management (asking req deviceState).mgmt.lastServed (asking req deviceState)
      = some (asked req) := by decide +kernel
  intro req h
  exact ⟨asking req deviceState, asked req, ⟨key req h, rfl, fun _ => rfl⟩, rfl, rfl, rfl, rfl, rfl⟩

theorem witness_param_set : ∃ s p r id v, mgmtTakes s p r ∧ r.request = .paramSet id v ∧ 1 ≤ id.toNat ∧ id.toNat ≤ 9 ∧
    (paramRange id).1 ≤ v ∧ v ≤ (paramRange id).2 ∧
    ∀ l : Link, id = 1 → l.val = v → (s.port l).state ≠ .off ∧
      ((s.port l).state = .failed → s.mgmt.params.autoRestart.testBit v = true) :=
  ⟨asking (.paramSet 1 2) deviceState, 0, asked (.paramSet 1 2), 1, 2,
    ⟨by decide +kernel, rfl, fun _ => rfl⟩, rfl, by decide, by decide, by decide, by decide, by decide +kernel⟩

/-- Setting AUTO_RESTART, from a state in which L2 is FAILED with its holdoff expired. -/
theorem witness_param_set_restart : ∃ s p r v l, mgmtTakes s p r ∧ r.request = .paramSet 7 v ∧ (paramRange 7).1 ≤ v ∧
    v ≤ (paramRange 7).2 ∧ (s.port l).state = .failed ∧ (s.port l).holdoffTimer = none ∧ v.testBit l.val = true :=
  ⟨asking (.paramSet 7 15) deviceState, 0, asked (.paramSet 7 15), 15, 2, ⟨by decide +kernel, rfl, fun _ => rfl⟩, rfl,
    by decide, by decide, rfl, rfl, by decide⟩

/-- The management link may not become L3, whose port is OFF. -/
theorem witness_param_set_off : ∃ s p r v, mgmtTakes s p r ∧ r.request = .paramSet 1 v ∧
    ∃ l : Link, l.val = v ∧ (s.port l).state = .off :=
  ⟨asking (.paramSet 1 3) deviceState, 0, asked (.paramSet 1 3), 3, ⟨by decide +kernel, rfl, fun _ => rfl⟩, rfl, 3, rfl,
    rfl⟩

/-! ### Witnesses: the request path -/

/-- A RENEW of session 0101h as a host sends it. -/
def renewMessage : Message := ⟨1, 3, 0, 0, 7, ⟨1, 1⟩, []⟩

/-- A reset of scope ALL is pending. -/
def resetting : State :=
  let s := asking .renew oneSession
  s.setMgmt { s.mgmt with reset := some .all, grace := some 100 }

theorem witness_pending_reset : ∃ (s : State) (p : Link) (c : Instr), s.mgmt.reset.isSome = true ∧
    c ∈ [.renew p, .takeRequest p, .dropNonRequest p] :=
  ⟨resetting, 0, .renew 0, rfl, by simp⟩

/-- L0 and L1 both present a request of a unit, and L3 was served last: L0's is taken. -/
theorem witness_arbiter : ∀ req ∈ [Request.renew, .identify], ∃ s p k hdr,
    offer? req.route (lastServedBy req.route s) s = some ⟨p, k, hdr, req, req.route⟩ := by
  have key : ∀ req ∈ [Request.renew, .identify],
      let s := (asking req oneSession).setDisp 1 ((asking req oneSession).disp 0)
      offer? req.route (lastServedBy req.route s) s = some (asked req) := by decide +kernel
  intro req h
  exact ⟨_, 0, 0, _, key req h⟩

/-- A message at the head of L0's receive buffer, and slot 0 taken. -/
def arrived (m : Message) : State :=
  (asking .renew oneSession).modPort 0 fun x => { x with rxBuffer := [m] }

theorem witness_take : (∃ (s : State) (p : Link) (m : Message) (rest : List Message) (k : SlotIx),
      (s.port p).state = .up ∧ s.mgmt.reset = none ∧ (s.port p).rxBuffer = m :: rest ∧ m.kind = 1 ∧
      ((s.disp p).slot k).body = .free ∧ ∀ n, n < k → ((s.disp p).slot n).body ≠ .free) ∧
    ∃ (s : State) (p : Link) (m : Message) (rest : List Message),
      (s.port p).state = .up ∧ s.mgmt.reset = none ∧ (s.port p).rxBuffer = m :: rest ∧ m.kind ≠ 1 :=
  ⟨⟨arrived renewMessage, 0, renewMessage, [], 1, rfl, rfl, by decide +kernel, rfl, by decide +kernel,
      by decide +kernel⟩,
    ⟨arrived { renewMessage with kind := 2 }, 0, { renewMessage with kind := 2 }, [], rfl, rfl, by decide +kernel,
      by decide⟩⟩

/-- The verdict of the generic checks on a request without a body that arrives on link `p`: the status it is refused
with, or none. -/
def verdict (p : Link) (code : Byte) (h : Handle) (c : Coord) : Option Status :=
  match genericChecks 0 p ⟨1, code, 0, 0, 0, h, []⟩ c with
  | .ok _ => none
  | .error st => some st

/-- The session check at its boundaries (R84, R123): indices 0, 32 and 33, a FREE entry, another generation, another link,
an ORPHANED session, and RESUME of an OPEN and of an ORPHANED one. -/
theorem test_session_check :
    [verdict 0 3 ⟨0, 1⟩ oneSession.coord, verdict 0 3 ⟨32, 1⟩ oneSession.coord, verdict 0 3 ⟨33, 1⟩ oneSession.coord,
      verdict 0 3 ⟨1, 2⟩ oneSession.coord, verdict 1 3 ⟨1, 1⟩ oneSession.coord, verdict 2 3 ⟨1, 1⟩ oneOrphan.coord,
      verdict 0 2 ⟨1, 1⟩ oneSession.coord, verdict 0 2 ⟨1, 1⟩ oneOrphan.coord, verdict 0 3 ⟨1, 1⟩ oneSession.coord] =
    [some .noSession, some .noSession, some .noSession, some .noSession, some .notBound, some .notBound,
      some .inUse, none, none] := by decide +kernel

/-- A message of each clause of GenericChecksInOrder: 49 body bytes; codes 0 and 27; a trailing byte; a device request
with a session; a PARAM_SET from L1; OPEN; a session request with the handle 0000h (`test_session_check` has the rest). -/
theorem witness_generic_checks :
    (48 < longMessage.bodyLen.toNat) ∧
    (⟨1, 0, 0, 48, 0, Handle.zero, List.replicate 48 0⟩ : Message).code = 0 ∧
    parseRequest 3 0 [0] = none ∧
    (∃ req, parseRequest 21 0 [] = some req ∧ genericChecks 0 0 ⟨1, 21, 0, 0, 0, ⟨1, 1⟩, []⟩ Coord.initial = .error .malformed) ∧
    (∃ req, parseRequest 23 0 [9, 0, 0, 0, 0] = some req ∧ req.needsMgmtLink = true ∧
      genericChecks 0 1 ⟨1, 23, 0, 5, 0, Handle.zero, [9, 0, 0, 0, 0]⟩ Coord.initial = .error .notPermitted) ∧
    (∃ req, parseRequest 1 0 [] = some req) ∧
    Handle.zero.sessIx? = none := by
  refine ⟨by decide, rfl, by decide, ⟨_, by rfl, by rfl⟩, ⟨_, by rfl, by rfl, by rfl⟩, ⟨_, by rfl⟩, by decide⟩

/-! ### Witnesses: reports, time and the patrol -/

/-- Slot 3 of L2 at occupancy 9. -/
def someSlot : SlotRef := ⟨2, 3, 9⟩

/-- A wait that references the slot of a freeing report not yet taken. -/
def reporting : State :=
  (part [(0, lockEntry { heldLock 1 with queue := [wait0] })] [(1, openOn 1 { plainRecord with lockWaits := 1 })]
    [(0, ⟨1, some ⟨1, handle0, .shared, none, 9, some someSlot⟩⟩)]).modDisp 2 fun d => { d with freed := [someSlot] }

theorem witness_freeing : ∃ (s : State) (r : SlotRef) (w : WaitIx) (y : WaitRecord), r ∈ (s.disp r.port).freed ∧
    (s.coord.wait w).body = some y ∧ y.slotRef = some r :=
  ⟨reporting, someSlot, 0, ⟨1, handle0, .shared, none, 9, some someSlot⟩, by decide +kernel, by decide +kernel, rfl⟩

/-- L0 has failed and no unit has taken its report; session 0101h is OPEN on it with a SENT notice. -/
def failed0 : State :=
  ((asking .renew oneSession).modPort 0 fun x =>
    { x with state := .failed, failDispatcher := true, failEngine := true, failNotices := true }).setCoord
    (oneSession.coord.setBox 0 ⟨some ⟨false, 1, 0⟩, [⟨4, .timedOut, handle0, none, true, none⟩]⟩)

theorem witness_failure_reports : ∃ (s : State) (p : Link) (j : SessIx) (b : SessCurrent) (v : NoticeView),
    (s.port p).failEngine = true ∧ (s.port p).failNotices = true ∧ (s.port p).failDispatcher = true ∧
    (s.coord.sess j).body = some b ∧ b.orphaned = false ∧ b.bound = p ∧ (s.coord.box j).view = some v ∧
    v.orphaned = false ∧ v.link = p ∧ (s.disp p).queue ≠ [] :=
  ⟨failed0, 0, 0, ⟨false, 0, plainRecord, .clean⟩, ⟨false, 1, 0⟩, rfl, rfl, rfl, by decide +kernel, rfl, rfl,
    by decide +kernel, rfl, rfl, by decide +kernel⟩

theorem witness_notice_ack : ∃ (s : State) (p : Link) (j : SessIx) (v : NoticeView) (serial : Nat)
    (rest : List (Handle × Nat)) (before after : List Notice) (n : Notice),
    (s.port p).noticeAcks = (Machine.sessHandle j v.gen, serial) :: rest ∧ (s.coord.box j).view = some v ∧
    (s.coord.box j).queue = before ++ n :: after ∧ n.sent = true ∧ n.serial = serial ∧
    ∀ m, m ∈ before → m.serial ≠ serial :=
  ⟨failed0.modPort 0 fun x => { x with noticeAcks := [(⟨1, 1⟩, 4)] }, 0, 0, ⟨false, 1, 0⟩, 4, [], [], [],
    ⟨4, .timedOut, handle0, none, true, none⟩, by decide +kernel, by decide +kernel, by decide +kernel, rfl, rfl,
    by simp⟩

/-- The part of the worked sequence of two deadlines (R75) with sessions 1 to 5 as given, handles 0107h and 0108h, and
wait ids 0100h to 0103h, before T3. A coarse tick is due. -/
def beforeT3 : State :=
  let w (k : WaitIx) : Handle := waitHandle k 1
  let c : State := part
    [(7, ⟨1, .live ⟨[116], .lock ⟨0, 8, .exclusive, [0], [w 0, w 1, w 2], false⟩⟩ .clean⟩),
      (8, ⟨1, .live ⟨[102], .counter ⟨100, 2, [w 3]⟩⟩ .clean⟩)]
    [(0, openOn 0 { plainRecord with period := 50, remaining := 1, holds := [⟨7, 1⟩] }),
      (1, openOn 0 { plainRecord with lockWaits := 1 }), (2, openOn 0 { plainRecord with lockWaits := 1 }),
      (3, openOn 1 { plainRecord with lockWaits := 1 }), (4, openOn 1 { plainRecord with counterWaits := 1 })]
    [(0, ⟨1, some ⟨1, ⟨7, 1⟩, .exclusive, some 1, 1, none⟩⟩), (1, ⟨1, some ⟨2, ⟨7, 1⟩, .shared, some 1, 2, none⟩⟩),
      (2, ⟨1, some ⟨3, ⟨7, 1⟩, .shared, none, 3, none⟩⟩), (3, ⟨1, some ⟨4, ⟨8, 1⟩, .atLeast 5 true, some 1, 4, none⟩⟩)]
  { c with timebase := ⟨0, 0, 1⟩ }

/-- After T3 the lock is SHARED by s4 with the abandoned flag set and an empty queue, the counter's list is empty, s1 is
FREE and its expiry is reported with one hold, and s2, s3, s4 and s5 have the notices of the worked sequence (R75). -/
theorem test_two_deadlines :
    let t := after (.coarseTick false) beforeT3
    t.coord.obj 7 = ⟨1, .live ⟨[116], .lock ⟨0, 8, .shared, [3], [], true⟩⟩ .clean⟩ ∧
      t.coord.obj 8 = ⟨1, .live ⟨[102], .counter ⟨100, 2, []⟩⟩ .clean⟩ ∧ t.coord.sess 0 = ⟨2, none⟩ ∧
      t.coord.engineOut = [.sessionExpired ⟨1, 1⟩ 1] ∧
      ([1, 2, 3, 4].map fun j => (t.coord.box j).queue.map (·.kind)) =
        [[.timedOut], [.timedOut], [.granted true], [.timedOut]] ∧
      ([0, 1, 2, 3].map fun w => t.coord.wait w) = List.replicate 4 ⟨2, none⟩ := by decide +kernel

/-- Session 0101h has one tick of its lease left and holds the lock 0100h, for which session 0202h waits. -/
def leaseEnds : State :=
  { part [(0, lockEntry { heldLock 0 with queue := [wait0] })]
      [(0, openOn 0 { holdingRecord with remaining := 1 }), (1, openOn 1 { plainRecord with lockWaits := 1 })]
      [(0, ⟨1, some ⟨1, handle0, .shared, some 2, 9, none⟩⟩)] with timebase := ⟨0, 0, 1⟩ }

theorem witness_tick_lease : ∃ (s : State) (j k : SessIx) (b b' : SessCurrent) (h : Handle) (name : List Byte)
    (l : LockRecord) (w : WaitIx) (y : WaitRecord), 0 < s.timebase.coarseDue ∧ sessionsClean s ∧ objectsClean s ∧
    noneRunsOut s (some j) none ∧ (s.coord.sess j).body = some b ∧ b.record.remaining = 1 ∧ b.record.holds = [h] ∧
    ownsNoWait s j ∧ namesObject s h ⟨name, .lock l⟩ ∧ l.holders = [j] ∧
    l.queue = [waitHandle w (s.coord.wait w).gen] ∧ (s.coord.wait w).body = some y ∧ y.object = h ∧
    (y.kind = .exclusive ∨ y.kind = .shared) ∧ y.owner = k ∧ (s.coord.sess k).body = some b' :=
  ⟨leaseEnds, 0, 1, ⟨false, 0, { holdingRecord with remaining := 1 }, .clean⟩,
    ⟨false, 1, { plainRecord with lockWaits := 1 }, .clean⟩, handle0, [97], { heldLock 0 with queue := [wait0] }, 0,
    ⟨1, handle0, .shared, some 2, 9, none⟩, by decide, sessionsClean_of (by decide +kernel),
    objectsClean_of (by decide +kernel), noneRunsOut_of (by decide +kernel), by decide +kernel, rfl, rfl,
    ownsNoWait_of (by decide +kernel), by unfold namesObject; decide +kernel, rfl, by decide +kernel, by decide +kernel,
    rfl, Or.inr rfl, rfl, by decide +kernel⟩

/-- Session 0202h has two ticks of its lease left, and one of the deadline with which it awaits the counter 0101h. -/
def deadlineEnds : State :=
  { part [(1, counterEntry ⟨100, 3, [wait0]⟩)] [(1, openOn 1 { plainRecord with remaining := 2, counterWaits := 1 })]
      [(0, ⟨1, some ⟨1, handle1, .atLeast 5 true, some 1, 9, none⟩⟩)] with timebase := ⟨0, 0, 1⟩ }

theorem witness_tick_deadline : ∃ (s : State) (w : WaitIx) (y : WaitRecord) (b : SessCurrent) (name : List Byte)
    (k : CounterRecord), 0 < s.timebase.coarseDue ∧ sessionsClean s ∧ objectsClean s ∧ noneRunsOut s none (some w) ∧
    (s.coord.wait w).body = some y ∧ y.deadline = some 1 ∧ y.kind.isLock = false ∧
    namesObject s y.object ⟨name, .counter k⟩ ∧ k.waiters = [waitHandle w (s.coord.wait w).gen] ∧
    (s.coord.sess y.owner).body = some b :=
  ⟨deadlineEnds, 0, ⟨1, handle1, .atLeast 5 true, some 1, 9, none⟩,
    ⟨false, 1, { plainRecord with remaining := 2, counterWaits := 1 }, .clean⟩, [110], ⟨100, 3, [wait0]⟩, by decide,
    sessionsClean_of (by decide +kernel), objectsClean_of (by decide +kernel), noneRunsOut_of (by decide +kernel),
    by decide +kernel, rfl, rfl, by unfold namesObject; decide +kernel, by decide +kernel, by decide +kernel⟩

/-- A coarse tick is due; the lease of session 0101h and the deadline of its wait have two ticks left. -/
def tickDue : State :=
  { part [] [(0, openOn 0 { plainRecord with remaining := 2 })]
      [(0, ⟨1, some ⟨0, handle0, .shared, some 2, 9, none⟩⟩)] with timebase := ⟨0, 0, 1⟩ }

theorem witness_coarse_tick : ∃ s : State, 0 < s.timebase.coarseDue ∧ sessionsClean s ∧ noneRunsOut s none none ∧
    ∀ h : s.patrol.position.val < 256, (s.coord.obj ⟨s.patrol.position.val, h⟩).body = .free := by
  have hf : (tickDue.coord.obj 0).body = .free := by decide +kernel
  exact ⟨tickDue, by decide, sessionsClean_of (by decide +kernel), noneRunsOut_of (by decide +kernel), fun _ => hf⟩

/-- Session 0101h has no lease left and holds the lock 0100h. -/
theorem witness_lease_expiry : ∃ (s : State) (j : SessIx) (b : SessCurrent) (h : Handle) (name : List Byte)
    (l : LockRecord), (s.coord.sess j).body = some b ∧ b.health = .clean ∧ b.record.remaining = 0 ∧
    b.record.holds = [h] ∧ ownsNoWait s j ∧ namesObject s h ⟨name, .lock l⟩ ∧ l.holders = [j] ∧ l.queue = [] :=
  ⟨part [(0, lockEntry (heldLock 0))] [(0, openOn 0 { holdingRecord with remaining := 0 })] [], 0,
    ⟨false, 0, { holdingRecord with remaining := 0 }, .clean⟩, handle0, [97], heldLock 0, by decide +kernel, rfl, rfl,
    rfl, ownsNoWait_of (by decide +kernel), by unfold namesObject; decide +kernel, rfl, rfl⟩

theorem witness_deadline_expiry : ∃ (s : State) (w : WaitIx) (y : WaitRecord) (b : SessCurrent) (name : List Byte)
    (k : CounterRecord), (s.coord.wait w).body = some y ∧ y.deadline = some 0 ∧ y.kind.isLock = false ∧
    namesObject s y.object ⟨name, .counter k⟩ ∧ k.waiters = [waitHandle w (s.coord.wait w).gen] ∧
    (s.coord.sess y.owner).body = some b ∧ b.health = .clean :=
  ⟨countWaiter, 0, ⟨1, handle1, .atLeast 5 true, some 0, 9, none⟩,
    ⟨false, 1, { plainRecord with counterWaits := 1 }, .clean⟩, [110], ⟨100, 3, [wait0]⟩, by decide +kernel, rfl, rfl,
    by unfold namesObject; decide +kernel, by decide +kernel, by decide +kernel, rfl⟩

/-- A patrol report of the last object entry, which is FREE by now. -/
def patrolledFree : State := { oneSession with patrol := ⟨1, [⟨255, 1⟩]⟩ }

/-- A patrol report of the lock 0100h, whose record is uncorrectable. -/
def patrolled : State :=
  { part [(0, ⟨1, .live ⟨[97], .lock freeLock⟩ .uncorrectable⟩)] [(0, openOn 0 plainRecord)] [] with
    patrol := ⟨1, [⟨0, 1⟩]⟩ }

theorem witness_patrol : (∃ (s : State) (r : PatrolReport) (rest : List PatrolReport) (i : ObjIx) (o : ObjRecord)
      (u : Health), s.patrol.reports = r :: rest ∧ r.position.val = i.val ∧ (s.coord.obj i).body = .live o u ∧
      (s.coord.obj i).gen = r.gen ∧ sessionsClean s ∧
      (∀ w y, (s.coord.wait w).body = some y → y.object ≠ s.coord.objHandle i) ∧
      ∀ j x, s.coord.sessRecord? j = some x → s.coord.objHandle i ∉ x.holds) ∧
    ∃ (s : State) (r : PatrolReport) (rest : List PatrolReport) (i : ObjIx), s.patrol.reports = r :: rest ∧
      r.position.val = i.val ∧ ∀ o u, (s.coord.obj i).body = .live o u → (s.coord.obj i).gen ≠ r.gen := by
  refine ⟨⟨patrolled, ⟨0, 1⟩, [], 0, ⟨[97], .lock freeLock⟩, .uncorrectable, rfl, rfl, by decide +kernel,
    by decide +kernel, sessionsClean_of (by decide +kernel), ?_, ?_⟩,
    ⟨patrolledFree, ⟨255, 1⟩, [], 255, rfl, rfl, ?_⟩⟩
  · intro w y hy
    simpa using noWait_of (f := fun y => y.object == patrolled.coord.objHandle 0) (by decide +kernel) w y hy
  · have h : ∀ j : SessIx, (patrolled.coord.sessRecord? j).all (fun x => !x.holds.contains handle0) = true := by
      decide +kernel
    intro j x hx
    have hj := h j
    rw [hx] at hj
    have he : patrolled.coord.objHandle 0 = handle0 := by decide +kernel
    rw [he]
    simpa using hj
  · intro o u h
    rw [show (patrolledFree.coord.obj 255).body = .free by decide +kernel] at h
    cases h

/-- The worked sequence of the patrol, without its third session: entry 20 at generation 2, held by s5, with a wait of
s9 (R180). -/
def damagedLock : State :=
  { part [(20, ⟨2, .live ⟨[100], .lock ⟨0, 8, .exclusive, [4], [waitHandle 3 1], false⟩⟩ .uncorrectable⟩)]
      [(4, openOn 0 { plainRecord with holds := [⟨20, 2⟩] }), (8, openOn 1 { plainRecord with lockWaits := 1 })]
      [(3, ⟨1, some ⟨8, ⟨20, 2⟩, .exclusive, none, 1, none⟩⟩)] with
    patrol := ⟨21, [⟨20, 2⟩]⟩ }

/-- The lock of a patrol report has a wait and a hold, and no other wait or hold names it. -/
theorem witness_patrol_in_use : ∃ (s : State) (r : PatrolReport) (rest : List PatrolReport) (i : ObjIx) (o : ObjRecord)
    (u : Health) (w : WaitIx) (y : WaitRecord) (j k : SessIx) (b b' : SessCurrent), s.patrol.reports = r :: rest ∧
    r.position.val = i.val ∧ (s.coord.obj i).body = .live o u ∧ (s.coord.obj i).gen = r.gen ∧ sessionsClean s ∧
    (s.coord.wait w).body = some y ∧ y.object = s.coord.objHandle i ∧
    (∀ v z, (s.coord.wait v).body = some z → z.object = s.coord.objHandle i → v = w) ∧ y.owner = k ∧
    (s.coord.sess k).body = some b' ∧ j ≠ k ∧ (s.coord.sess j).body = some b ∧
    s.coord.objHandle i ∈ b.record.holds ∧
    ∀ n x, n ≠ j → s.coord.sessRecord? n = some x → s.coord.objHandle i ∉ x.holds := by
  have hh : damagedLock.coord.objHandle 20 = ⟨20, 2⟩ := by decide +kernel
  refine ⟨damagedLock, ⟨20, 2⟩, [], 20, _, _, 3, ⟨8, ⟨20, 2⟩, .exclusive, none, 1, none⟩, 4, 8,
    ⟨false, 0, { plainRecord with holds := [⟨20, 2⟩] }, .clean⟩, ⟨false, 1, { plainRecord with lockWaits := 1 }, .clean⟩,
    rfl, rfl, rfl, by decide +kernel, sessionsClean_of (by decide +kernel), by decide +kernel, hh.symm, ?_, rfl,
    by decide +kernel, by decide, by decide +kernel, by rw [hh]; decide, ?_⟩
  · have h : ∀ v : WaitIx, v ≠ 3 → (damagedLock.coord.wait v).body.isNone = true := by decide +kernel
    intro v z hv _
    by_contra hne
    have := h v hne
    rw [hv] at this
    cases this
  · have h : ∀ n : SessIx, n ≠ 4 → (damagedLock.coord.sessRecord? n).all (fun x => !x.holds.contains ⟨20, 2⟩) = true := by
      decide +kernel
    intro n x hn hx
    have := h n hn
    rw [hx] at this
    rw [hh]
    simpa using this

/-- A patrol report of session 0101h, which holds the lock 0100h, and one of the last session entry, which is FREE. -/
def patrolledSession (r : PatrolReport) : State := { oneHold with patrol := ⟨0, [r]⟩ }

theorem witness_patrol_session : (∃ (s : State) (r : PatrolReport) (rest : List PatrolReport) (j : SessIx)
      (b : SessCurrent) (h : Handle) (name : List Byte) (l : LockRecord), s.patrol.reports = r :: rest ∧
      r.position.val = 256 + j.val ∧ (s.coord.sess j).body = some b ∧ (s.coord.sess j).gen = r.gen ∧ objectsClean s ∧
      ownsNoWait s j ∧ namesObject s h ⟨name, .lock l⟩ ∧ j ∈ l.holders ∧ l.queue = [] ∧
      ∀ i n m, i ≠ h.objIx → s.coord.record? i = some ⟨n, .lock m⟩ → j ∉ m.holders) ∧
    ∃ (s : State) (r : PatrolReport) (rest : List PatrolReport) (j : SessIx), s.patrol.reports = r :: rest ∧
      r.position.val = 256 + j.val ∧ ((s.coord.sess j).body = none ∨ (s.coord.sess j).gen ≠ r.gen) := by
  refine ⟨⟨patrolledSession ⟨256, 1⟩, ⟨256, 1⟩, [], 0, ⟨false, 0, holdingRecord, .clean⟩, handle0, [97], heldLock 0, rfl,
    rfl, by decide +kernel, by decide +kernel, objectsClean_of (by decide +kernel), ownsNoWait_of (by decide +kernel),
    by unfold namesObject; decide +kernel, by decide, rfl, ?_⟩,
    ⟨patrolledSession ⟨287, 1⟩, ⟨287, 1⟩, [], 31, rfl, rfl, Or.inl (by decide +kernel)⟩⟩
  have h : ∀ i : ObjIx, i ≠ 0 → oneHold.coord.record? i = none := by decide +kernel
  intro i n m hi hr
  rw [show (patrolledSession ⟨256, 1⟩).coord = oneHold.coord from rfl, h i hi] at hr
  cases hr

/-- A coarse tick is due, and the patrol stands at the lock 0100h, whose record is left in a condition. -/
def patrolStands (u : Health) : State :=
  { part [(0, ⟨1, .live ⟨[97], .lock freeLock⟩ u⟩)] [(0, openOn 0 plainRecord)] [] with timebase := ⟨0, 0, 1⟩ }

theorem witness_patrol_step : ∀ u ∈ [Health.oneBit, .uncorrectable], ∃ (s : State) (i : ObjIx) (o : ObjRecord),
    0 < s.timebase.coarseDue ∧ sessionsClean s ∧ noneRunsOut s none none ∧ s.mgmt.params.scrub = 1 ∧
    s.patrol.position.val = i.val ∧ (s.coord.obj i).body = .live o u := by
  intro u hu
  refine ⟨patrolStands u, 0, ⟨[97], .lock freeLock⟩, ?_⟩
  simp only [List.mem_cons, List.not_mem_nil, or_false] at hu
  rcases hu with rfl | rfl
  · exact ⟨by decide, sessionsClean_of (by decide +kernel), noneRunsOut_of (by decide +kernel), rfl, rfl,
      by decide +kernel⟩
  · exact ⟨by decide, sessionsClean_of (by decide +kernel), noneRunsOut_of (by decide +kernel), rfl, rfl,
      by decide +kernel⟩

theorem test_patrol_finds_damaged_lock :
    let t := after .patrolFaultReport damagedLock
    t.coord.obj 20 = ⟨2, .faulted⟩ ∧ t.coord.engineOut = [.recordFaulted ⟨20, 2⟩] ∧
      (t.coord.box 8).queue.map (·.kind) = [.withdrawn .faulted] ∧
      (t.coord.box 4).queue.map (·.kind) = [.revoked .faulted] := by decide +kernel

/-- The worked sequence of a release pass: five AWAITs, then COUNT_ADD +10 by session 6 (R58, R59). -/
def fiveWaiters : State :=
  let owner (k : SessIx) := openOn 0 { plainRecord with counterWaits := if k = 0 then 0 else 1 }
  let waiter (k : SessIx) (n : Nat) (take : Bool) : WaitEntry := ⟨1, some ⟨k, ⟨6, 1⟩, .atLeast n take, none, 1, none⟩⟩
  asking (.countAdd ⟨6, 1⟩ 10) (part
    [(6, ⟨1, .live ⟨[115], .counter ⟨100, 2, [waitHandle 0 1, waitHandle 1 1, waitHandle 2 1, waitHandle 3 1,
      waitHandle 4 1]⟩⟩ .clean⟩)]
    [(0, owner 0), (1, owner 1), (2, owner 2), (3, owner 3), (4, owner 4), (5, owner 5)]
    [(0, waiter 1 5 true), (1, waiter 2 3 false), (2, waiter 3 8 true), (3, waiter 4 4 true), (4, waiter 5 6 false)])

theorem test_release_pass :
    let t := after (.countAdd 0) fiveWaiters
    replyOf t = some (.count .ok 2 3 true 3) ∧
      (t.coord.obj 6).body = .live ⟨[115], .counter ⟨100, 3, [waitHandle 2 1, waitHandle 4 1]⟩⟩ .clean ∧
      ([1, 2, 3, 4, 5].map fun j => (t.coord.box j).queue.map (·.kind)) =
        [[.reached 7], [.reached 7], [], [.reached 3], []] ∧
      ([0, 1, 2, 3, 4].map fun w => (t.coord.wait w).gen) = [2, 2, 1, 2, 1] := by decide +kernel

theorem witness_fine_tick : ∃ s : State,
    (∀ p, (s.port p).greetingTimer ≠ some 0 ∧ (s.port p).helloTimer ≠ some 0 ∧ (s.port p).holdoffTimer ≠ some 0 ∧
      (s.port p).idleTimer ≠ some 0 ∧ (s.port p).rewindTimer ≠ some 0 ∧ (s.port p).silenceDue = false) ∧
    s.mgmt.grace ≠ some 0 :=
  ⟨oneSession, by decide +kernel, by decide⟩

/-! ### Witnesses: the ports -/

/-- The part with the given port L0. -/
def withPort (x : Port) : State := State.reset.setPort 0 x

/-- A port in GREETING, both timers expired. -/
def greetingPort : Port :=
  { Port.initial with state := .greeting, laneReady := true, greetingTimer := some 0, helloTimer := some 0 }

/-- Both timers of GREETING; the holdoff timer; the silence limit; the rewind timer below REWIND_LIMIT and at it. -/
theorem witness_port_timers : ∀ x ∈ [greetingPort, { greetingPort with inProgress := some (.hello ⟨1, 16, false, true, 1⟩) },
      { Port.initial with state := .failed, holdoffTimer := some 0 },
      { upPort with silenceDue := true, silence := 50 },
      { upPort with discarding := true, attempts := 5, rewindTimer := some 0 },
      { upPort with discarding := true, attempts := 6, rewindTimer := some 0 }],
    ∃ (s : State) (p : Link), s.port p = x ∧ s.mgmt.params.rewindLimit = 6 ∧
      ((s.port p).state = .greeting ∧ (s.port p).greetingTimer = some 0 ∧ (s.port p).helloTimer = some 0 ∨
        (s.port p).state = .failed ∧ (s.port p).holdoffTimer = some 0 ∨
        (s.port p).state = .up ∧ (s.port p).silenceDue = true ∨
        (s.port p).state = .up ∧ (s.port p).discarding = true ∧ (s.port p).rewindTimer = some 0) := by
  intro x hx
  refine ⟨withPort x, 0, rfl, rfl, ?_⟩
  simp only [List.mem_cons, List.not_mem_nil, or_false] at hx
  rcases hx with rfl | rfl | rfl | rfl | rfl | rfl <;> decide +kernel

/-- The lane of a WAITING port becomes ready: the first HELLO is in progress at once with the seen flag clear, and a HELLO
heard before it ends does not change it (R139, R140). -/
theorem test_first_hello :
    let s := after (.laneReady 0) State.reset
    let t := after (.receiveHello 0 ⟨1, 4, false, false, 0⟩) s
    (s.port 0).inProgress = some (.hello ⟨1, 16, false, true, 1⟩) ∧ (s.port 0).helloDue = false ∧
      (t.port 0).seen = true ∧ (t.port 0).inProgress = (s.port 0).inProgress := by decide +kernel

theorem witness_lane_lost : ∃ (s : State) (p : Link), (s.port p).state = .greeting ∨ (s.port p).state = .up :=
  ⟨withPort greetingPort, 0, Or.inl rfl⟩

/-- The reply to a DEVICE_RESET with the given status byte, scope ALL and epoch 2. -/
def resetReply (st : Byte) : Message := ⟨2, 26, 0, 4, 7, Handle.zero, [st, 1, 2, 0]⟩

/-- A port that is UP, has sent frames 126, 127, 0 and 1 and expects frame 0; the replay stands at frame 127. -/
def windowPort : Port :=
  let entry (n : FrameNum) (load : Carried) : ReplayEntry := ⟨n, renewMessage, load⟩
  { upPort with
    nextNum := 2, sentCount := 4, partnerLimit := 4, expected := 0, replayPos := some 127,
    replay := [entry 126 (.reply 3), entry 127 (.notice ⟨9, 1⟩ 7), ⟨0, resetReply 0, .reply 26⟩, entry 1 .alert] }

/-- An UP port that discards, on the expected number, and whose silence timer has run out. -/
def discardingPort : Port :=
  { upPort with
    discarding := true, attempts := 1, rewindTimer := some 5, expected := 40, silenceDue := true, silence := 50 }

/-- The receive buffer of an UP port is full. -/
def fullPort : Port := { upPort with rxBuffer := List.replicate 16 renewMessage, expected := 40 }

/-- DATA at an accepting receiver: the expected number with room, and with a full buffer; 24 and 25 behind; the limits
that grant nothing and the whole depth. DATA of the expected number and of another at a DISCARDING receiver. -/
theorem witness_receive_data : ∀ q ∈ [(windowPort, (0 : FrameNum), (4 : Credit)), (fullPort, 40, 16), (fullPort, 16, 0),
      (fullPort, 15, 16), (discardingPort, 40, 16), (discardingPort, 41, 16)],
    ∃ (s : State) (p : Link) (m : FrameNum) (limit : Credit) (msg : Message) (depth : Nat),
      s.port p = q.1 ∧ m = q.2.1 ∧ limit = q.2.2 ∧ (s.port p).positioned ∧ (s.port p).state = .up ∧
      msg.body.length ≤ 48 ∧ (s.port p).partnerDepth = some depth ∧
      (limit - (s.port p).sentCount).toNat ≤ depth := by
  intro q hq
  refine ⟨withPort q.1, 0, q.2.1, q.2.2, renewMessage, 16, rfl, rfl, rfl, ?_⟩
  simp only [List.mem_cons, List.not_mem_nil, or_false] at hq
  rcases hq with rfl | rfl | rfl | rfl | rfl | rfl
  · exact ⟨by intro pos h; cases h; decide, rfl, by decide, rfl, by decide⟩
  all_goals exact ⟨(by intro pos h; cases h), rfl, by decide, rfl, by decide⟩

/-- DATA of the expected number at a DISCARDING receiver takes no place in the receive buffer (R157). -/
theorem test_discarding_drops_data :
    let x := (after (.receiveData 0 40 0 16 renewMessage) (withPort discardingPort)).port 0
    x.rxBuffer = [] ∧ x.expected = 40 ∧ x.discarding = true ∧ x.silence = 0 ∧ x.out = [] := by decide +kernel

/-- IDLE, REWIND and MARK at an UP port with frames 126, 127, 0 and 1 in its replay buffer, the replay under way. -/
theorem witness_control : ∃ (s : State) (p : Link) (limit : Credit) (depth : Nat), (s.port p).positioned ∧
    (s.port p).state = .up ∧ (s.port p).partnerDepth = some depth ∧ (limit - (s.port p).sentCount).toNat ≤ depth ∧
    (s.port p).replayPos = some 127 :=
  ⟨withPort windowPort, 0, 20, 16, by intro pos h; cases h; decide, rfl, rfl, by decide, rfl⟩

/-- R144's example: with 126, 127, 0 and 1 in the buffer an ack of 1 removes 126, 127 and 0. The notice and the reply to
DEVICE_RESET among them are reported. -/
theorem test_ack_removes :
    let x := (after (.receiveIdle 0 1 4) (withPort windowPort)).port 0
    x.replay.map (·.num) = [1] ∧ x.noticeAcks = [(⟨9, 1⟩, 7)] ∧ x.resetAck = true ∧ x.state = .up := by decide +kernel

/-- The acknowledgment of a refused reply to DEVICE_RESET, NOT_PERMITTED here, performs no reset (R184). -/
theorem test_refused_reset_reply :
    let x : Port := { upPort with nextNum := 1, sentCount := 1, replay := [⟨0, resetReply 22, .reply 26⟩] }
    let s := withPort x
    let t := after (.receiveIdle 0 1 16) (s.setMgmt { s.mgmt with reset := some .all, grace := some 100 })
    (t.port 0).replay = [] ∧ (t.port 0).resetAck = false ∧ after .resetReplyAcked t = t := by decide +kernel

/-- R144's example: an ack of 3 gives 5, which is above 4, and fails the link. -/
theorem test_ack_fails : ((after (.receiveIdle 0 3 4) (withPort windowPort)).port 0).state = .failed := by
  decide +kernel

/-- The credit example: after step 8, N 6 and depth 4, a limit of 7 gives a credit of 1 and a limit of 12 fails the
port (R146). -/
theorem test_credit :
    let x : Port := { upPort with partnerDepth := some 4, partnerLimit := 7, sentCount := 6, nextNum := 6 }
    ((after (.receiveIdle 0 6 7) (withPort x)).port 0).credit = 1 ∧
      ((after (.receiveIdle 0 6 12) (withPort x)).port 0).state = .failed := by decide +kernel

/-- Step 4 of the damaged frame toward the host: the REWIND with ack 21 and number 21 removes 20, and a MARK(21) is due
(R161). -/
theorem test_rewind :
    let entry (n : FrameNum) : ReplayEntry := ⟨n, renewMessage, .reply 3⟩
    let x := { upPort with
      nextNum := 25, sentCount := 5, partnerLimit := 16, replay := [entry 20, entry 21, entry 22, entry 23, entry 24] }
    let y := (after (.receiveRewind 0 21 16 21) (withPort x)).port 0
    y.replay.map (·.num) = [21, 22, 23, 24] ∧ y.markDue = some 21 ∧ y.replayPos = some 21 ∧ y.noticeAcks = [] := by
  decide +kernel

/-- A HELLO of the host with depth 16. -/
def hostHello (seen : Bool) : Hello := ⟨1, 16, seen, false, 0⟩

theorem witness_hello : (∃ (s : State) (p : Link) (h : Hello), (s.port p).state = .greeting ∧
      (s.port p).failDispatcher = false ∧ (s.port p).failEngine = false ∧ (s.port p).failNotices = false ∧
      h.role = false ∧ h.revision = 1 ∧ 1 ≤ h.depth.toNat ∧ h.depth.toNat ≤ 16 ∧ h.seen = true) ∧
    ∃ (s : State) (p : Link) (h : Hello), (s.port p).state = .up ∧ h.seen = true ∧ (s.port p).partnerHeard = false :=
  ⟨⟨withPort greetingPort, 0, hostHello true, rfl, rfl, rfl, rfl, rfl, rfl, by decide, by decide, rfl⟩,
    ⟨withPort upPort, 0, hostHello true, rfl, rfl, rfl⟩⟩

/-! ### Witnesses: the sender -/

/-- An UP sender with no control frame due, no replay, credit and room. -/
def freeSender (s : State) (p : Link) (depth : Nat) : Prop :=
  (s.port p).state = .up ∧ (s.port p).helloDue = false ∧ (s.port p).rewindDue = false ∧ (s.port p).markDue = none ∧
    (s.port p).replayPos = none ∧ (s.port p).partnerDepth = some depth ∧ (s.port p).replay.length < 24 ∧
    1 ≤ (s.port p).credit ∧ (s.port p).credit ≤ depth

/-- Nothing waits at a port whose reply queue is empty, while there is no alert and the notice unit holds no session. -/
theorem nothingReady_of {s : State} {p : Link}
    (h : (s.disp p).queue = [] ∧ s.mgmt.alerts = [] ∧ ∀ j, (s.coord.box j).view = none) : nothingReady s p := by
  refine ⟨?_, fun _ => h.2.1, ?_⟩
  · rintro k reply ⟨⟨rest, hq⟩, -⟩
    rw [h.1] at hq
    cases hq
  · rintro j g n ⟨hv, -⟩
    rw [h.2.2 j] at hv
    cases hv

/-- An UP sender with credit and room, to which nothing is ready: its idle timer expired, or running with nothing new to
advertise. -/
theorem witness_nothing_ready : ∀ x ∈ [{ upPort with idleTimer := some 0 },
      { upPort with lastAdvertised := some (0, 16), idleTimer := some 1 }],
    ∃ (s : State) (p : Link) (depth : Nat), s.port p = x ∧ freeSender s p depth ∧ nothingReady s p := by
  intro x hx
  have hq : ((State.reset.disp 0).queue = [] ∧ State.reset.mgmt.alerts = []) ∧
      ∀ j, (State.reset.coord.box j).view = none := by decide +kernel
  refine ⟨withPort x, 0, 16, rfl, ?_, nothingReady_of ⟨hq.1.1, hq.1.2, hq.2⟩⟩
  simp only [List.mem_cons, List.not_mem_nil, or_false] at hx
  rcases hx with rfl | rfl <;> (unfold freeSender; decide +kernel)

/-- The final HELLO, a REWIND and a MARK due, a replay under way, and an IDLE with the credit spent. -/
theorem witness_control_frames : ∀ x ∈ [{ upPort with helloDue := true }, { upPort with rewindDue := true },
      { upPort with markDue := some 3 }, windowPort, { upPort with partnerLimit := 0, idleTimer := some 0 }],
    ∃ (s : State) (p : Link), s.port p = x ∧ (s.port p).state = .up ∧
      ((s.port p).helloDue = true ∨ (s.port p).helloDue = false ∧
        ((s.port p).rewindDue = true ∨ (s.port p).rewindDue = false ∧
          ((s.port p).markDue = some 3 ∨ (s.port p).markDue = none ∧
            ((∃ pos e, (s.port p).replayPos = some pos ∧
                (s.port p).replay[(pos - (s.port p).oldest).toNat]? = some e) ∨
              (s.port p).replayPos = none ∧ (s.port p).credit = 0 ∧ (s.port p).idleTimer = some 0 ∧
                (s.port p).inProgress = none)))) := by
  intro x hx
  refine ⟨withPort x, 0, rfl, ?_⟩
  simp only [List.mem_cons, List.not_mem_nil, or_false] at hx
  rcases hx with rfl | rfl | rfl | rfl | rfl
  · exact ⟨rfl, Or.inl rfl⟩
  · exact ⟨rfl, Or.inr ⟨rfl, Or.inl rfl⟩⟩
  · exact ⟨rfl, Or.inr ⟨rfl, Or.inr ⟨rfl, Or.inl rfl⟩⟩⟩
  · exact ⟨rfl, Or.inr ⟨rfl, Or.inr ⟨rfl, Or.inr ⟨rfl, Or.inl ⟨127, _, rfl, rfl⟩⟩⟩⟩⟩
  · exact ⟨rfl, Or.inr ⟨rfl, Or.inr ⟨rfl, Or.inr ⟨rfl, Or.inr ⟨rfl, by decide +kernel, rfl, rfl⟩⟩⟩⟩⟩

/-- A FINISHED reply at the head of L0's reply queue. -/
def repliedState : State := after (.renew 0) (asking .renew oneSession)

/-- An UNSENT notice of session 0101h, OPEN on L0. -/
def noticeState : State :=
  oneSession.setCoord (oneSession.coord.setBox 0 ⟨some ⟨false, 1, 0⟩, [⟨4, .timedOut, handle0, none, false, none⟩]⟩)

/-- Every slot of L0 is occupied, the head one FINISHED, and a REQUEST is held in the receive buffer. -/
def heldRequest : State :=
  (repliedState.modDisp 0 fun d => { d with
    slots := Vector.replicate 8 (d.slot 0), queue := [0, 1, 2, 3, 4, 5, 6, 7] }).modPort 0 fun x =>
    { x with rxBuffer := [renewMessage] }

theorem witness_new_reply : (∃ s p depth k rest reply, freeSender s p depth ∧ (s.disp p).queue = k :: rest ∧
      ((s.disp p).slot k).body = .finished reply ∧ ∃ n, ((s.disp p).slot n).body = .free) ∧
    ∃ s p depth k rest reply m ms, freeSender s p depth ∧ (s.disp p).queue = k :: rest ∧
      ((s.disp p).slot k).body = .finished reply ∧ (∀ n, ((s.disp p).slot n).body ≠ .free) ∧ s.mgmt.reset = none ∧
      (s.port p).rxBuffer = m :: ms ∧ m.kind = 1 :=
  ⟨⟨repliedState, 0, 16, 0, [], ⟨3, 7, ⟨1, 1⟩, .renew .ok 2000⟩, by unfold freeSender; decide +kernel, by decide +kernel,
      by decide +kernel, 1, by decide +kernel⟩,
    ⟨heldRequest, 0, 16, 0, [1, 2, 3, 4, 5, 6, 7], ⟨3, 7, ⟨1, 1⟩, .renew .ok 2000⟩, renewMessage, [],
      by unfold freeSender; decide +kernel, by decide +kernel, by decide +kernel, by decide +kernel, by decide +kernel,
      by decide +kernel, rfl⟩⟩

/-- The reply goes out, and the held request stands PENDING in the freed slot at the tail of the queue (R122, R131). -/
theorem test_held_request :
    let t := after (.selectNextFrame 0) heldRequest
    (t.disp 0).queue = [1, 2, 3, 4, 5, 6, 7, 0] ∧
      ((t.disp 0).slot 0).body = .pending ⟨3, 7, ⟨1, 1⟩⟩ .renew .engine ∧ (t.port 0).rxBuffer = [] ∧
      (t.port 0).taken = 1 := by decide +kernel

theorem witness_new_data :
    (∃ s p depth a rest, freeSender s p depth ∧ (∀ k reply, ¬ replyReady s p k reply) ∧
      s.mgmt.params.mgmtLink = p.val ∧ s.mgmt.alerts = a :: rest) ∧
    ∃ s p depth j g n, freeSender s p depth ∧ (∀ k reply, ¬ replyReady s p k reply) ∧
      (s.mgmt.params.mgmtLink = p.val → s.mgmt.alerts = []) ∧ noticeReady s p j g n ∧
      ∀ i : SessIx, (i - (s.port p).lastServed - 1).val < (j - (s.port p).lastServed - 1).val →
        ∀ g' n', ¬ noticeReady s p i g' n' := by
  refine ⟨⟨oneSession.setMgmt { oneSession.mgmt with alerts := [.linkUp 3] }, 0, 16, .linkUp 3, [],
      by unfold freeSender; decide +kernel, ?_, rfl, rfl⟩,
    ⟨noticeState, 0, 16, 0, 1, ⟨4, .timedOut, handle0, none, false, none⟩, by unfold freeSender; decide +kernel, ?_,
      fun _ => rfl, ⟨by decide +kernel, rfl, rfl, [], [], by decide +kernel, by simp⟩, ?_⟩⟩
  · rintro k reply ⟨⟨rest, hq⟩, -⟩
    rw [show (Dispatcher.queue _) = [] by decide +kernel] at hq
    cases hq
  · rintro k reply ⟨⟨rest, hq⟩, -⟩
    rw [show (Dispatcher.queue _) = [] by decide +kernel] at hq
    cases hq
  · intro i hi
    have : (0 : SessIx) - (noticeState.port 0).lastServed - 1 = 0 := by decide +kernel
    rw [this] at hi
    exact absurd hi (by simp)

/-! ### Witnesses: resets, reports and frames -/

/-- A reset of scope SESSIONS is pending and its grace timer has expired; a lock is held. -/
def graceOver : State := oneHold.setMgmt { oneHold.mgmt with reset := some .sessions, grace := some 0 }

/-- The grace timer expired with the ninth fine tick of a millisecond: the reset is performed before the next fine tick,
and a full millisecond begins (R68, R184). -/
theorem test_reset_restarts_millisecond :
    let t := after (.fineTick []) { graceOver with timebase := ⟨2499, 9, 0⟩ }
    t.timebase = ⟨0, 0, 0⟩ ∧ t.mgmt.epoch = 2 ∧ t.mgmt.reset = none := by decide +kernel

theorem witness_device_reset : ∃ (s : State) (sc : Scope), s.mgmt.reset = some sc ∧ s.mgmt.grace = some 0 :=
  ⟨graceOver, .sessions, rfl, rfl⟩

theorem witness_session_reset : ∃ s : State, s.mgmt.reset = some .sessions ∧ s.mgmt.grace = some 0 ∧ objectsClean s :=
  ⟨graceOver, rfl, rfl, objectsClean_of (by decide +kernel)⟩

theorem witness_reset_ack : ∃ (s : State) (sc : Scope) (p : Link), s.mgmt.reset = some sc ∧ (s.port p).resetAck = true :=
  ⟨resetting.modPort 2 fun x => { x with resetAck := true }, .all, 2, rfl, rfl⟩

/-- The part has a report for the management unit from the engine, and one from the port of L2; the alert queue is full
or empty. -/
def reported (r : Report) (alerts : List Alert) : State :=
  let s := (oneSession.setCoord { oneSession.coord with engineOut := [r] }).modPort 2 fun x =>
    { x with out := [.linkFailed 2 .silence] }
  s.setMgmt { s.mgmt with alerts := alerts }

theorem witness_reports : (∃ (s : State) (h : Handle), s.coord.engineOut = .recordFaulted h :: [] ∧
      s.mgmt.params.alertMask.testBit 4 = true ∧ s.mgmt.alerts.length < 8 ∧
      s.mgmt.deviceStats.recordsFaulted < 4294967295) ∧
    (∃ s : State, s.coord.engineOut = .faultedFreed :: []) ∧
    ∃ (s : State) (p l : Link) (why : FailReason), (s.port p).out = .linkFailed l why :: [] ∧ why ≠ .stopped ∧
      s.mgmt.linkStats[l].failures < 4294967295 ∧ s.mgmt.params.alertMask.testBit 1 = true ∧ 8 ≤ s.mgmt.alerts.length ∧
      s.mgmt.deviceStats.alertsDropped < 4294967295 :=
  ⟨⟨reported (.recordFaulted handle0) (List.replicate 7 (.linkUp 0)), handle0, rfl, by decide, by decide, by decide⟩,
    ⟨reported .faultedFreed [], rfl⟩,
    ⟨reported .faultedFreed (List.replicate 8 (.linkUp 0)), 2, 2, .silence, rfl, by decide, by decide, by decide,
      by decide, by decide⟩⟩

theorem witness_lane_bytes : (∃ f : Frame, ∀ num ack limit m, f = .data num ack limit m → m.body.length ≤ 48) ∧
    ∃ (c : BitVec 32) (body : List Byte) (b : Byte) (rest : List Byte), c ≠ checkCode body ∧ body = b :: rest ∧
      (b.toNat % 16 = 0 ∨ 5 < b.toNat % 16) :=
  ⟨⟨.data 127 0 255 renewMessage, by intro _ _ _ m h; cases h; decide⟩,
    ⟨0, [0x16], 0x16, [], by decide +kernel, rfl, Or.inr (by decide)⟩⟩

/-! ### Witnesses: the invariants -/

/-- The state with a lock, a counter, a FAULTED entry and an OPEN session, as a sound one, and a step from it. -/
theorem witness_sound_tables : ∃ s t : State, s.coord.Sound ∧ s.mgmt.Sound ∧ step s = .next t := by
  refine ⟨twoObjects, _, ⟨?_, ?_, ?_, ?_⟩, ?_, rfl⟩
  · have h : ∀ i, twoObjects.coord.obj i = lockEntry freeLock ∨ twoObjects.coord.obj i = counterEntry ⟨100, 3, []⟩ ∨
        twoObjects.coord.obj i = ⟨4, .faulted⟩ ∨ twoObjects.coord.obj i = ⟨1, .free⟩ := by decide +kernel
    intro i
    rcases h i with e | e | e | e <;> rw [e] <;>
      simp [ObjEntry.Sound, ObjBody.record?, lockEntry, counterEntry, ObjRecord.Sound, ObjKind.Sound, LockRecord.Sound,
        CounterRecord.Sound, freeLock]
  · have h : ∀ j, twoObjects.coord.sess j = openOn 0 plainRecord ∨ twoObjects.coord.sess j = ⟨1, none⟩ := by
      decide +kernel
    intro j
    rcases h j with e | e <;> rw [e] <;>
      simp [SessEntry.Sound, openOn, SessRecord.Sound, plainRecord, Config.maxU32]
  · decide +kernel
  · have h : ∀ j, (twoObjects.coord.box j).queue = [] := by decide +kernel
    intro j
    simp [NoticeBox.Sound, h j]
  · refine ⟨?_, by decide, by decide, ?_, ?_, rfl⟩
    · unfold Params.Sound; decide +kernel
    · decide +kernel
    · decide +kernel

theorem witness_sound_ports : ∃ s t : State, s.mgmt.Sound ∧ (∀ p, (s.port p).Sound) ∧ step s = .next t := by
  refine ⟨twoObjects, _, ?_, ?_, rfl⟩
  · refine ⟨?_, by decide, by decide, ?_, ?_, rfl⟩
    · unfold Params.Sound; decide +kernel
    · decide +kernel
    · decide +kernel
  · have h : ∀ p, twoObjects.port p = upPort ∨ twoObjects.port p = Port.initial := by decide +kernel
    have hc : upPort.credit = 16 := by decide
    intro p
    rcases h p with e | e <;> rw [e]
    · simp [Port.Sound, upPort, Port.initial, Port.numbered, Port.positioned, Port.recovering, Port.timed, Port.running,
        Config.receiveDepth, Config.replayDepth] at hc ⊢
      omega
    · simp [Port.Sound, Port.initial, Port.numbered, Port.positioned, Port.recovering, Port.timed, Port.quiet,
        Config.receiveDepth, Config.replayDepth]

theorem witness_sound_dispatchers : ∃ s t : State,
    (∀ p, (s.disp p).Sound ∧ idlePath (s.port p) (s.disp p)) ∧ step s = .next t := by
  refine ⟨asking .renew oneSession, _, ?_, rfl⟩
  have h : ∀ p, (((asking .renew oneSession).disp p).queue.Nodup ∧
      ∀ k, (((asking .renew oneSession).disp p).slot k).body ≠ .free ↔ k ∈ ((asking .renew oneSession).disp p).queue) ∧
      ((asking .renew oneSession).port p = upPort ∨ ((asking .renew oneSession).disp p).queue = []) := by
    decide +kernel
  intro p
  refine ⟨⟨(h p).1.1, (h p).1.2⟩, ?_⟩
  intro hs _
  rcases (h p).2 with e | e
  · rw [e] at hs; exact absurd rfl hs
  · exact e

/-- An empty queue one cycle before a fine tick, and at it. -/
theorem witness_empty_queue : ∀ n ∈ [2498, 2499], ∃ s : State, s.pending = [] ∧ s.timebase.refclk = n :=
  fun n _ => ⟨{ State.reset with timebase := ⟨n, 0, 0⟩ }, rfl, rfl⟩

theorem witness_request_bodies : ∃ threshold d : Nat, threshold < 4294967296 ∧ d < 65536 :=
  ⟨4294967295, 65535, by decide, by decide⟩

end Sys2Proof.Tests
end

/-! The session requests that open, resume and renew (R87, R89, R97): what each body does to the tables, and from that
the statements O1 to O3. -/

section
namespace Sys2Proof.Machine

/-! ### The tables after a write of one session -/

theorem sessionsKeptBut_of_setSess {s t : State} {j : SessIx} {e : SessEntry}
    (h : t.coord.sessions = (s.coord.setSess j e).sessions) : sessionsKeptBut j s t := by
  intro k hk
  have read : t.coord.sess k = (s.coord.setSess j e).sess k := by simp only [Coord.sess, h]
  rw [read, Coord.sess_setSess, if_neg (Ne.symm hk)]

theorem boxesKeptBut_of_setBox {s t : State} {j : SessIx} {b : NoticeBox}
    (h : t.coord.boxes = (s.coord.setBox j b).boxes) : boxesKeptBut j s t := by
  intro k hk
  have read : t.coord.box k = (s.coord.setBox j b).box k := by simp only [Coord.box, h]
  rw [read, Coord.box_setBox, if_neg (Ne.symm hk)]

/-- A command that only writes the record of session `j` changes nothing else of the tables. -/
theorem onlySession_of_setSessRecord {s t : State} {j : SessIx} {x : SessRecord}
    (h : t.coord = s.coord.setSessRecord j x) : onlySession j x s t := by
  have entry (k : SessIx) := h ▸ Coord.setSessRecord_sess s.coord j k x
  refine ⟨?now, ?others, ?objects, ?waits, ?boxes, ?engineOut, ?integrityOut⟩
  case now => exact (entry j).trans (if_pos rfl)
  case others => exact fun k hk => (entry k).trans (if_neg (Ne.symm hk))
  all_goals simp [h]

/-! ### OPEN -/

/-- The scan of R88 chooses the lowest-numbered FREE entry. -/
theorem Coord.freeSess?_lowest (c : Coord) (j : SessIx) (hj : (c.sess j).body = none)
    (below : ∀ k, k < j → (c.sess k).body ≠ none) : c.freeSess? = some j :=
  find_lowest _ j (by simp [hj]) fun k hk => by simpa [Option.isSome_iff_ne_none] using below k hk

/-- An OPEN whose lease and label are in range opens the entry the scan chose (R88, R89). -/
theorem openBody_opens (lease : Option Nat) (ordered : Option Bool) (label : Option (List Byte)) (ctx : RequestContext)
    (c : Coord) (j : SessIx) (hlease : ∀ l, lease = some l → 50 ≤ l ∧ l ≤ 60000)
    (hlabel : ∀ l, label = some l → l.length ≤ 12) (hj : c.freeSess? = some j) :
    openBody lease ordered label ctx c =
      (.openSession .ok (c.sessHandle j) (lease.getD ctx.defaultLease) ctx.epoch,
        openEntry j ctx.link (openRecord (lease.getD ctx.defaultLease) (ordered.getD false) (label.getD [])) c) := by
  have leaseOk : lease.any (fun l => decide (l < 50 ∨ 60000 < l)) = false := by
    cases lease with
    | none => rfl
    | some l => obtain ⟨low, high⟩ := hlease l rfl; simp [low, high]
  have labelOk : label.any (fun l => decide (12 < l.length)) = false := by
    cases label with
    | none => rfl
    | some l => simp [hlabel l rfl]
  simp only [openBody, leaseOk, labelOk, hj, Bool.false_eq_true, if_false]

@[simp] theorem sess_openEntry (j : SessIx) (p : Link) (x : SessRecord) (c : Coord) :
    (openEntry j p x c).sess j = ⟨(c.sess j).gen, some ⟨false, p, x, .clean⟩⟩ := by
  simp [openEntry]

@[simp] theorem box_openEntry (j : SessIx) (p : Link) (x : SessRecord) (c : Coord) :
    (openEntry j p x c).box j = ⟨some ⟨false, (c.sess j).gen, p⟩, []⟩ := by
  simp [openEntry]

/-- Settles O1: the range checks pass, the scan stops at `j`, and `openEntry` writes that entry and its notice box
alone. -/
theorem openOpensLowestFreeEntry : Obligations.OpenOpensLowestFreeEntry := by
  intro s p r lease ordered label j takes hreq hlease hlabel hfree below
  obtain rfl : r.link = p := takes.2
  have runs := exec_openSession_runs s r.link r lease ordered label takes hreq
  rw [openBody_opens lease ordered label _ s.coord j hlease hlabel (s.coord.freeSess?_lowest j hfree below)] at runs
  exact ⟨_, runs, engineAfter_frame _ _ _, engineAfter_answered _ _ _, sess_openEntry _ _ _ _, box_openEntry _ _ _ _,
    sessionsKeptBut_of_setSess rfl, boxesKeptBut_of_setBox rfl, rfl, rfl, rfl, rfl⟩

/-! ### RESUME -/

/-- The session check of RESUME passes an ORPHANED session named by the handle its entry has now (R84, R96). -/
theorem sessionCheck_orphan (c : Coord) (arrival : Link) (j : SessIx) (b : SessCurrent)
    (hb : (c.sess j).body = some b) (orphan : b.orphaned = true) :
    sessionCheck true (c.sessHandle j) arrival c = .ok j := by
  simp [sessionCheck, Coord.sessHandle, hb, orphan]

/-- Rebinding a current session makes it OPEN on the link, in its entry and in the notice unit's view (R97, R114). -/
theorem rebind_current (j : SessIx) (p : Link) (c : Coord) (b : SessCurrent) (hb : (c.sess j).body = some b) :
    rebind j p c =
      (c.setSess j ⟨(c.sess j).gen, some { b with orphaned := false, bound := p }⟩).setBox j
        ⟨some ⟨false, (c.sess j).gen, p⟩, (c.box j).queue⟩ := by
  simp [rebind, hb]

/-- RESUME of a current session rebinds it and reports its lease period, its holdings and its notices (R97). -/
theorem resumeBody_current (j : SessIx) (ctx : RequestContext) (c : Coord) (b : SessCurrent)
    (hb : (c.sess j).body = some b) :
    resumeBody j ctx c =
      (.resume .ok b.record.period b.record.holds.length b.record.lockWaits b.record.counterWaits
        (c.box j).queue.length (((c.box j).queue.head?.map (·.serial)).getD 0), rebind j ctx.link c) := by
  have record : (rebind j ctx.link c).sessRecord? j = some b.record := by
    simp [rebind_current j ctx.link c b hb, Coord.sessRecord?]
  have queue : ((rebind j ctx.link c).box j).queue = (c.box j).queue := by
    simp [rebind_current j ctx.link c b hb]
  simp only [resumeBody, record, queue]
  cases (c.box j).queue <;> rfl

/-- Settles O2: the renewal and the rebinding are two writes of the one entry `j`, and the reply is read from what they
leave. -/
theorem resumeRebindsOrphan : Obligations.ResumeRebindsOrphan := by
  intro s p r j b takes hreq hsession hb orphan clean
  obtain rfl : r.link = p := takes.2
  have served : sessionServed s r j b.record :=
    ⟨by rw [hreq, hsession]; exact sessionCheck_orphan s.coord r.link j b hb orphan, b, hb, rfl, clean⟩
  have runs := exec_resume_runs s r.link r j b.record takes hreq served
  have renewed : ((s.coord.setSessRecord j b.record.renewed).sess j).body =
      some { b with record := b.record.renewed, health := .clean } := by
    simp [Coord.setSessRecord_sess, hb]
  rw [resumeBody_current j _ _ _ renewed, rebind_current j _ _ _ renewed,
    s.coord.setSessRecord_current j b.record.renewed b hb] at runs
  exact ⟨_, runs, engineAfter_frame _ _ _, engineAfter_answered _ _ _, by simp [requestContext],
    by simp [requestContext], sessionsKeptBut_of_setSess (tableSet_twice _ _ _ _), boxesKeptBut_of_setBox rfl,
    rfl, rfl, rfl, rfl⟩

/-! ### RENEW -/

/-- RENEW answers the remaining lease of a current session and leaves the tables to the renewal (R87). -/
theorem renewBody_current (j : SessIx) (ctx : RequestContext) (c : Coord) (x : SessRecord)
    (hx : c.sessRecord? j = some x) : renewBody j ctx c = (.renew .ok x.remaining, c) := by
  simp [renewBody, hx]

/-- Settles O3: RENEW adds nothing to the renewal, after which the remaining lease is the period. -/
theorem renewRenewsLease : Obligations.RenewRenewsLease := by
  intro s p r j x takes hreq served
  have ⟨_, b, hb, _, _⟩ := served
  have runs := exec_renew_runs s p r j x takes hreq served
  have renewed : (s.coord.setSessRecord j x.renewed).sessRecord? j = some x.renewed := by
    simp [Coord.sessRecord?, Coord.setSessRecord_sess, hb]
  rw [renewBody_current j _ _ _ renewed] at runs
  exact ⟨_, runs, engineAfter_frame _ _ _, engineAfter_answered _ _ _, onlySession_of_setSessRecord rfl⟩

end Sys2Proof.Machine
end

/-! DISCARD_SLOTS (R132): what the freeing of one slot and of a list of slots does to a dispatcher, and from that the
statement O32. -/

section
namespace Sys2Proof.Machine

/-! ### The freeing of one slot -/

theorem Dispatcher.slot_freeSlot (d : Dispatcher) (p : Link) (k m : SlotIx) :
    (d.freeSlot p k).slot m = if k = m then ⟨(d.slot m).occupancy, .free⟩ else d.slot m := by
  have read : (d.freeSlot p k).slot m = (d.setSlot k ⟨(d.slot k).occupancy, .free⟩).slot m := rfl
  rw [read, Dispatcher.slot_setSlot]
  split
  case isTrue same => rw [same]
  case isFalse => rfl

/-- Freeing a slot, FREE or not, keeps every occupancy number. -/
@[simp] theorem Dispatcher.occupancy_freeSlot (d : Dispatcher) (p : Link) (k m : SlotIx) :
    ((d.freeSlot p k).slot m).occupancy = (d.slot m).occupancy := by
  rw [Dispatcher.slot_freeSlot]
  split <;> rfl

@[simp] theorem Dispatcher.freeSlot_freed (d : Dispatcher) (p : Link) (k : SlotIx) :
    (d.freeSlot p k).freed = d.freed ++ [⟨p, k, (d.slot k).occupancy⟩] := rfl
@[simp] theorem Dispatcher.freeSlot_out (d : Dispatcher) (p : Link) (k : SlotIx) : (d.freeSlot p k).out = d.out := rfl

/-! ### The freeing of a list of slots -/

/-- The slots `ks` freed one after the other, as `discardAll` frees its queue. -/
def Dispatcher.freeSlots (d : Dispatcher) (p : Link) (ks : List SlotIx) : Dispatcher :=
  ks.foldl (fun d k => d.freeSlot p k) d

@[simp] theorem Dispatcher.freeSlots_nil (d : Dispatcher) (p : Link) : d.freeSlots p [] = d := rfl
@[simp] theorem Dispatcher.freeSlots_cons (d : Dispatcher) (p : Link) (k : SlotIx) (ks : List SlotIx) :
    d.freeSlots p (k :: ks) = (d.freeSlot p k).freeSlots p ks := rfl

theorem Dispatcher.discardAll_eq (d : Dispatcher) (p : Link) :
    d.discardAll p = { d.freeSlots p d.queue with queue := [] } := rfl

/-- The listed slots become FREE with their occupancy numbers, and the others stay. -/
theorem Dispatcher.slot_freeSlots (p : Link) (ks : List SlotIx) (m : SlotIx) (d : Dispatcher) :
    (d.freeSlots p ks).slot m = if m ∈ ks then ⟨(d.slot m).occupancy, .free⟩ else d.slot m := by
  induction ks generalizing d with
  | nil => simp
  | cons k ks ih =>
    rw [Dispatcher.freeSlots_cons, ih, Dispatcher.occupancy_freeSlot, Dispatcher.slot_freeSlot]
    by_cases later : m ∈ ks
    · simp [later]
    · simp [later, eq_comm]

/-- The freeings are reported in the order of the list, each with the occupancy number the slot had at the start: the
freeing of one slot changes no number of another. -/
theorem Dispatcher.freeSlots_freed (p : Link) (ks : List SlotIx) (d : Dispatcher) :
    (d.freeSlots p ks).freed = d.freed ++ ks.map (fun k => ⟨p, k, (d.slot k).occupancy⟩) := by
  induction ks generalizing d with
  | nil => simp
  | cons k ks ih => simp [ih]

theorem Dispatcher.freeSlots_out (p : Link) (ks : List SlotIx) (d : Dispatcher) : (d.freeSlots p ks).out = d.out := by
  induction ks generalizing d with
  | nil => rfl
  | cons k ks ih => simp [ih]

/-! ### The whole queue -/

theorem Dispatcher.slot_discardAll (d : Dispatcher) (p : Link) (m : SlotIx) :
    (d.discardAll p).slot m = if m ∈ d.queue then ⟨(d.slot m).occupancy, .free⟩ else d.slot m :=
  Dispatcher.slot_freeSlots p d.queue m d

theorem Dispatcher.discardAll_freed (d : Dispatcher) (p : Link) :
    (d.discardAll p).freed = d.freed ++ d.queue.map (fun k => ⟨p, k, (d.slot k).occupancy⟩) :=
  Dispatcher.freeSlots_freed p d.queue d

/-- A dispatcher whose port has an outstanding failure report takes it. -/
theorem exec_discardSlots_runs (s : State) (p : Link) (failed : (s.port p).failDispatcher = true) :
    exec (.discardSlots p) s =
      .next ((s.modDisp p fun d => d.discardAll p).modPort p fun x => { x with failDispatcher := false }) := by
  have arm : exec (.discardSlots p) s = .next (takeFailureAtDispatcher p s) := rfl
  rw [arm, takeFailureAtDispatcher, if_pos failed]

/-- Settles O32: DISCARD_SLOTS frees the reply queue of dispatcher `p`, and writes no other dispatcher and no port but
`p`. -/
theorem failureReportDiscardsSlots : Obligations.FailureReportDiscardsSlots := by
  intro s p failed
  refine ⟨_, exec_discardSlots_runs s p failed, ?_⟩
  rw [State.disp_modPort, State.disp_modDisp, if_pos rfl]
  have slot := (s.disp p).slot_discardAll p
  refine ⟨rfl, ?occupancy, ?queued, ?notQueued, (s.disp p).discardAll_freed p, ?out, ?port, ?ports, ?disps,
    rfl, rfl, rfl, rfl, rfl, rfl⟩
  case occupancy => intro k; rw [slot]; split <;> rfl
  case queued => intro k queued; rw [slot, if_pos queued]
  case notQueued => intro k notQueued; rw [slot, if_neg notQueued]
  case out => exact Dispatcher.freeSlots_out p _ _
  case port => simp
  case ports => intro q other; simp [Ne.symm other]
  case disps => intro q other; simp [Ne.symm other]

end Sys2Proof.Machine
end

/-! The device requests that only read (R167, R169): a management request whose body leaves the state alone changes its
slot and the management unit's arbiter, and from that the statement O21. -/

section
namespace Sys2Proof.Machine

/-! ### Management requests that change nothing -/

/-- A management request whose body answers `reply` and leaves the state alone: the reply stands in its slot, and its
link is the one served last (R128). -/
theorem mgmtAfter_of_reply {r : Presented} {body : MgmtBody} {s : State} {reply : ReplyBody}
    (reads : ∀ ctx, body ctx (s.setMgmt { s.mgmt with lastServed := r.link }) =
      (reply, s.setMgmt { s.mgmt with lastServed := r.link })) :
    mgmtAfter r body s = finishRequest r reply (s.setMgmt { s.mgmt with lastServed := r.link }) := by
  simp only [mgmtAfter, reads]

/-- The frame of a management request that changes the management unit alone. -/
theorem finishRequest_setMgmt_frame (r : Presented) (reply : ReplyBody) (m : Mgmt) (s : State) :
    mgmtFrame r s (finishRequest r reply (s.setMgmt m)) :=
  ⟨rfl, rfl, rfl, rfl, rfl, finishRequest_kept r reply s (s.setMgmt m) rfl⟩

/-! ### PARAM_GET -/

/-- The ids of R168 are 1..9. -/
theorem paramIdOk_iff (id : Byte) : paramIdOk id = true ↔ 1 ≤ id.toNat ∧ id.toNat ≤ 9 := by
  simp [paramIdOk]

/-- What PARAM_GET of `id` answers with the parameters `pm` (R169). -/
def paramGetReply (id : Byte) (pm : Params) : ReplyBody :=
  if paramIdOk id then .param .ok id.toNat (pm.get id) else .param .range 0 0

theorem paramGetReply_known {id : Byte} (pm : Params) (known : 1 ≤ id.toNat ∧ id.toNat ≤ 9) :
    paramGetReply id pm = .param .ok id.toNat (pm.get id) :=
  if_pos ((paramIdOk_iff id).mpr known)

theorem paramGetReply_unknown {id : Byte} (pm : Params) (unknown : ¬ (1 ≤ id.toNat ∧ id.toNat ≤ 9)) :
    paramGetReply id pm = .param .range 0 0 :=
  if_neg (mt (paramIdOk_iff id).mp unknown)

/-- PARAM_GET answers from the parameters in force and leaves the state alone, whether the id is known or not. -/
theorem paramGetBody_eq (id : Byte) (ctx : RequestContext) (s : State) :
    paramGetBody id ctx s = (paramGetReply id s.mgmt.params, s) := by
  unfold paramGetBody paramGetReply
  split <;> rfl

/-- The arbiter's note of the link served does not touch the parameters that PARAM_GET reads. -/
theorem mgmtAfter_paramGet (r : Presented) (id : Byte) (s : State) :
    mgmtAfter r (paramGetBody id) s =
      finishRequest r (paramGetReply id s.mgmt.params) (s.setMgmt { s.mgmt with lastServed := r.link }) :=
  mgmtAfter_of_reply fun ctx => paramGetBody_eq id ctx _

/-- Settles O21: PARAM_GET only reads, so that what is left is its reply, for a known and for an unknown id. -/
theorem paramGetReportsValue : Obligations.ParamGetReportsValue := by
  intro s p r id takes hreq
  have ⟨_, link, _⟩ := takes
  subst link
  have runs := exec_paramGet_runs s r.link r id takes hreq
  rw [mgmtAfter_paramGet] at runs
  refine ⟨_, runs, finishRequest_setMgmt_frame r _ _ s, rfl, rfl, ?answer⟩
  split
  case isTrue known => rw [paramGetReply_known _ known]; exact finishRequest_answered _ _ _
  case isFalse unknown => rw [paramGetReply_unknown _ unknown]; exact finishRequest_answered _ _ _

end Sys2Proof.Machine
end

/-! What a request command can do: it takes the request its unit is offered and runs the rule of that request, or it
leaves the state as it was. From that the statements O26 and O53 to O55. -/

section
namespace Sys2Proof

/-- The command is the row of a request of the engine. -/
def Instr.isEngineRow : Instr → Bool
  | .openSession _ | .resume _ | .renew _ | .close _ | .create _ | .find _ | .delete _ | .describe _ | .listObjects _
  | .acquire _ | .release _ | .cancel _ | .countRead _ | .countSet _ | .countAdd _ | .countSwap _ | .countRaise _
  | .countLower _ | .await _ | .listSessions _ => true
  | _ => false

/-- The command is the row of a request of the management unit. -/
def Instr.isMgmtRow : Instr → Bool
  | .identify _ | .paramGet _ | .paramSet _ | .statsGet _ | .linkControlStart _ | .linkControlStop _
  | .deviceReset _ => true
  | _ => false

end Sys2Proof

namespace Sys2Proof.Machine

/-! ### The rule of each request -/

/-- The rule by which the engine executes a request; none for the requests of the management unit. -/
def Request.engineRule? : Request → Option EngineBody
  | .openSession lease ordered label => some (openBody lease ordered label)
  | .resume => some (sessionRequest true resumeBody)
  | .renew => some (sessionRequest false renewBody)
  | .close => some (sessionRequest false closeBody)
  | .create kind name oie rank cap ceil init =>
    some (sessionRequest false (createBody kind name oie rank cap ceil init))
  | .find name => some (sessionRequest false (findBody name))
  | .delete h force => some (sessionRequest false (deleteBody h force))
  | .describe h => some (sessionRequest false (describeBody h))
  | .listObjects start => some (sessionRequest false (listObjectsBody start))
  | .acquire h mode t d => some (sessionRequest false (acquireBody h mode t d))
  | .release h repaired => some (sessionRequest false (releaseBody h repaired))
  | .cancel id => some (sessionRequest false (cancelBody id))
  | .countRead h => some (sessionRequest false (countBody h countReadOwn))
  | .countSet h v => some (sessionRequest false (countBody h (countSetOwn h.objIx v)))
  | .countAdd h d => some (sessionRequest false (countBody h (countAddOwn h.objIx d)))
  | .countSwap h e v => some (sessionRequest false (countBody h (countSwapOwn h.objIx e v)))
  | .countRaise h v => some (sessionRequest false (countBody h (countRaiseOwn h.objIx v)))
  | .countLower h v => some (sessionRequest false (countBody h (countLowerOwn h.objIx v)))
  | .await h t take try_ d => some (sessionRequest false (awaitBody h t take try_ d))
  | .listSessions start want => some (sessionRequest false (listSessionsBody start want))
  | _ => none

/-- The rule by which the management unit executes a request; none for the requests of the engine. -/
def Request.mgmtRule? : Request → Option MgmtBody
  | .identify => some identifyBody
  | .paramGet id => some (paramGetBody id)
  | .paramSet id v => some (paramSetBody id v)
  | .statsGet g clear => some (statsGetBody g clear)
  | .linkControl link command => some (if command = codeStop then linkStopBody link else linkStartBody link command)
  | .deviceReset scope => some (deviceResetBody scope)
  | _ => none

/-! ### What a request command can do -/

theorem engineRequest_cases (p : Link) (kind : Request → Option EngineBody) (s : State)
    (rule : ∀ req body, kind req = some body → req.engineRule? = some body) :
    engineRequest p kind s = .next s ∨
      ∃ r body, offer? .engine s.engineLast s = some r ∧ r.request.engineRule? = some body ∧
        engineRequest p kind s = .next (runEngine r body s) := by
  unfold engineRequest
  split
  case h_1 => exact .inl rfl
  case h_2 r offered =>
    split
    case isFalse => exact .inl rfl
    case isTrue link =>
      split
      case h_1 body chosen => exact .inr ⟨r, body, offered, rule _ _ chosen, rfl⟩
      case h_2 => exact .inl rfl

theorem mgmtRequest_cases (p : Link) (kind : Request → Option (MgmtBody × (State → ReplyBody))) (s : State)
    (rule : ∀ req body refused, kind req = some (body, refused) → req.mgmtRule? = some body) :
    mgmtRequest p kind s = .next s ∨
      ∃ r body refused, offer? .management s.mgmt.lastServed s = some r ∧ r.request.mgmtRule? = some body ∧
        mgmtRequest p kind s = .next (runMgmt r body refused s) := by
  unfold mgmtRequest
  split
  case h_1 => exact .inl rfl
  case h_2 r offered =>
    split
    case isFalse => exact .inl rfl
    case isTrue link =>
      split
      case h_1 body refused chosen => exact .inr ⟨r, body, refused, offered, rule _ _ _ chosen, rfl⟩
      case h_2 => exact .inl rfl

/-- An engine row leaves the state as it was, or runs the rule of the request the engine is offered. -/
theorem exec_engineRow (c : Instr) (s : State) (row : c.isEngineRow = true) :
    exec c s = .next s ∨
      ∃ r body, offer? .engine s.engineLast s = some r ∧ r.request.engineRule? = some body ∧
        exec c s = .next (runEngine r body s) := by
  cases c <;> first
    | exact absurd row Bool.false_ne_true
    | unfold exec
      refine engineRequest_cases _ _ s fun req body chosen => ?_
      cases req <;> first | exact chosen | cases chosen

/-- A row of the management unit leaves the state as it was, or runs the rule of the request the unit is offered. -/
theorem exec_mgmtRow (c : Instr) (s : State) (row : c.isMgmtRow = true) :
    exec c s = .next s ∨
      ∃ r body refused, offer? .management s.mgmt.lastServed s = some r ∧ r.request.mgmtRule? = some body ∧
        exec c s = .next (runMgmt r body refused s) := by
  cases c <;> first
    | exact absurd row Bool.false_ne_true
    | unfold exec
      refine mgmtRequest_cases _ _ s fun req body refused chosen => ?_
      cases req <;> simp only [Option.ite_none_left_eq_some, Option.ite_none_right_eq_some] at chosen <;> first
        | obtain ⟨command, same⟩ := chosen
          cases same
          simp only [Request.mgmtRule?, command, if_true, if_false]
        | cases chosen; rfl
        | cases chosen

/-! ### Rows that take nothing -/

/-- No request is offered while a reset is pending (R134). -/
theorem offer?_of_pending (unit : Route) (last : Link) (s : State) (pending : s.mgmt.reset.isSome = true) :
    offer? unit last s = none := by
  have silent (p : Link) : presents p s = false := by
    simp [presents, Option.isNone_eq_false_iff.mpr pending]
  simp [offer?, presented?, silent]

/-- No message is taken while a reset is pending (R134). -/
theorem mayTake_of_pending (p : Link) (s : State) (pending : s.mgmt.reset.isSome = true) : mayTake p s = false := by
  simp [mayTake, Option.isNone_eq_false_iff.mpr pending]

/-- Settles O26: a row of a unit finds no request offered, and the dispatcher's rows find that it may not take. -/
theorem pendingResetStopsRequests : Obligations.PendingResetStopsRequests := by
  intro s p c pending listed
  have row : c.isEngineRow = true ∨ c.isMgmtRow = true ∨ c = .takeRequest p ∨ c = .dropNonRequest p := by
    fin_cases listed <;> simp [Instr.isEngineRow, Instr.isMgmtRow]
  have noOffer (unit : Route) (last : Link) (r : Presented) : offer? unit last s ≠ some r := by
    simp [offer?_of_pending unit last s pending]
  rcases row with engine | mgmt | rfl | rfl
  · rcases exec_engineRow c s engine with same | ⟨r, _, offered, _⟩
    · exact same
    · exact absurd offered (noOffer _ _ r)
  · rcases exec_mgmtRow c s mgmt with same | ⟨r, _, _, offered, _⟩
    · exact same
    · exact absurd offered (noOffer _ _ r)
  · simp [exec, execTakeRequest, takeHeadRequest, mayTake_of_pending p s pending]
  · simp [exec, execDropNonRequest, mayTake_of_pending p s pending]

/-! ### The step -/

/-- Settles O53: the state with `c` in front of its queue is the state whose step runs `c` with the old queue. -/
theorem stepTakesFrontCommand : Obligations.StepTakesFrontCommand := fun _ _ => rfl

/-- Settles O54: below 2499 the divider stays short of the 2500 cycles of a fine tick, and at 2499 it reaches them. -/
theorem emptyQueueCountsClockCycles : Obligations.EmptyQueueCountsClockCycles := by
  intro s empty
  have idles : step s = .next (idleCycle s) := by simp only [step, empty]
  have period : Config.refclkPerFine = 2500 := rfl
  refine ⟨fun below => ?_, fun last => ?_⟩
  · rw [idles, idleCycle, if_pos (by omega)]
  · rw [idles, idleCycle, if_neg (by omega)]
    rfl

/-- Settles O55: a request row leaves the state or runs a rule, and every other row answers a next state in each of its
branches. -/
theorem everyCommandCompletes : Obligations.EveryCommandCompletes := by
  intro c s
  by_cases engine : c.isEngineRow = true
  · rcases exec_engineRow c s engine with same | ⟨r, body, _, _, runs⟩
    exacts [⟨_, same⟩, ⟨_, runs⟩]
  by_cases mgmt : c.isMgmtRow = true
  · rcases exec_mgmtRow c s mgmt with same | ⟨r, body, _, _, _, runs⟩
    exacts [⟨_, same⟩, ⟨_, runs⟩]
  cases c
  case dropNonRequest | slotFreeingReport | noticeAckReport | coarseTick | leaseExpiry | deadlineExpiry |
      patrolFaultReport | resetReplyAcked =>
    simp only [exec, execDropNonRequest, execSlotFreeingReport, execNoticeAckReport, execCoarseTick, execLeaseExpiry,
      execDeadlineExpiry, execPatrolFaultReport, execResetReplyAcked]
    (repeat' split) <;> exact ⟨_, rfl⟩
  all_goals first | exact ⟨_, rfl⟩ | exact absurd rfl engine | exact absurd rfl mgmt

end Sys2Proof.Machine
end

/-! The management unit stays sound (R168, R171, R174, R183, R184): what each command does to the unit, and from that
the statement O57. -/

section
namespace Sys2Proof.Machine

/-! ### Steps -/

/-- What every command and every clock cycle keeps, every step keeps, where the queue of commands does not count. -/
theorem step_keeps {P : State → Prop} (queue : ∀ s cs, P s → P { s with pending := cs })
    (idle : ∀ s, P s → P (idleCycle s)) (command : ∀ c s t, P s → exec c s = .next t → P t)
    {s t : State} (h : P s) (stepped : step s = .next t) : P t := by
  unfold step at stepped
  split at stepped
  case h_1 => cases stepped; exact idle s h
  case h_2 c rest _ => exact command c _ t (queue s rest h) stepped

/-! ### What leaves the management unit alone -/

@[simp] theorem takeHeadRequest_mgmt (p : Link) (s : State) : (takeHeadRequest p s).mgmt = s.mgmt := by
  unfold takeHeadRequest
  (repeat' split) <;> rfl

@[simp] theorem takeFailureAtDispatcher_mgmt (p : Link) (s : State) : (takeFailureAtDispatcher p s).mgmt = s.mgmt := by
  unfold takeFailureAtDispatcher
  split <;> rfl

@[simp] theorem takeFailureAtEngine_mgmt (p : Link) (s : State) : (takeFailureAtEngine p s).mgmt = s.mgmt := by
  unfold takeFailureAtEngine
  split <;> simp

@[simp] theorem takeFailureAtNotices_mgmt (p : Link) (s : State) : (takeFailureAtNotices p s).mgmt = s.mgmt := by
  unfold takeFailureAtNotices
  split <;> rfl

@[simp] theorem settleFailure_mgmt (p : Link) (s : State) : (settleFailure p s).mgmt = s.mgmt := by
  simp [settleFailure]

@[simp] theorem receiveHello_mgmt (p : Link) (h : Hello) (s : State) : (receiveHello p h s).mgmt = s.mgmt := by
  unfold receiveHello
  (repeat' split) <;> simp

@[simp] theorem handOver_mgmt (p : Link) (k : SlotIx) (r : Reply) (s : State) : (handOver p k r s).mgmt = s.mgmt := by
  unfold handOver
  simp only
  split <;> simp

@[simp] theorem idleExpiry_mgmt (p : Link) (s : State) : (idleExpiry p s).mgmt = s.mgmt := by
  unfold idleExpiry
  simp only
  split <;> simp

@[simp] theorem settlePort_mgmt (s : State) (p : Link) : (settlePort s p).mgmt = s.mgmt := by
  simp [settlePort]

@[simp] theorem patrolStep_mgmt (s : State) : (patrolStep s).mgmt = s.mgmt := by
  unfold patrolStep
  split <;> rfl

@[simp] theorem disturbAll_mgmt (upsets : List Upset) (s : State) : (disturbAll upsets s).mgmt = s.mgmt := rfl

theorem foldl_settlePort_mgmt (ps : List Link) (s : State) : (ps.foldl settlePort s).mgmt = s.mgmt := by
  induction ps generalizing s with
  | nil => rfl
  | cons p ps ih => rw [List.foldl_cons, ih, settlePort_mgmt]

@[simp] theorem setReports_mgmt (s : State) (rs : List Report) (src : ReportSource) :
    (s.setReports rs src).mgmt = s.mgmt := by
  cases src <;> rfl

/-- A state event that writes the parameter and moves ports leaves the rest of the management unit alone (R170). -/
theorem applyParam_mgmt (id : Byte) (v : Nat) (s : State) :
    (applyParam id v s).mgmt = { s.mgmt with params := s.mgmt.params.set id v } := by
  have ports (ls : List Link) (u : State) :
      (ls.foldl (fun s l => s.modPort l (Port.autoRestarted s.mgmt.params s.mgmt.epoch l)) u).mgmt = u.mgmt := by
    induction ls generalizing u with
    | nil => rfl
    | cons l ls ih => rw [List.foldl_cons, ih, State.modPort_mgmt]
  unfold applyParam
  simp only
  split
  · rw [ports]; rfl
  · rfl

/-! ### Alerts, statistics and reports -/

/-- What a report leaves alone: everything of the unit but its alerts, its counters and the faulted count (R171). -/
def Mgmt.settingsKept (m n : Mgmt) : Prop :=
  n.params = m.params ∧ n.epoch = m.epoch ∧ n.cause = m.cause ∧ n.reset = m.reset ∧ n.grace = m.grace ∧
    n.lastServed = m.lastServed

theorem Mgmt.raiseAlert_settings (a : Alert) (m : Mgmt) : m.settingsKept (m.raiseAlert a) := by
  unfold Mgmt.raiseAlert
  (repeat' split) <;> exact ⟨rfl, rfl, rfl, rfl, rfl, rfl⟩

theorem Mgmt.takeReport_settings (r : Report) (m : Mgmt) : m.settingsKept (m.takeReport r) := by
  cases r with
  | stat l k => exact ⟨rfl, rfl, rfl, rfl, rfl, rfl⟩
  | linkUp l => exact m.raiseAlert_settings _
  | linkFailed l why =>
    simp only [Mgmt.takeReport]
    split
    exacts [m.raiseAlert_settings _, (m.bumpLink l .failures).raiseAlert_settings _]
  | sessionExpired s n => exact m.bumpExpired.raiseAlert_settings _
  | sessionFaulted s => exact m.bumpFaulted.raiseAlert_settings _
  | recordFaulted o => exact Mgmt.raiseAlert_settings _ { m.bumpFaulted with faultedCount := m.faultedCount + 1 }
  | faultedFreed => exact ⟨rfl, rfl, rfl, rfl, rfl, rfl⟩
  | recordCorrected => exact ⟨rfl, rfl, rfl, rfl, rfl, rfl⟩

theorem Mgmt.settingsKept.trans {m n k : Mgmt} (h : m.settingsKept n) (h' : n.settingsKept k) : m.settingsKept k := by
  obtain ⟨h1, h2, h3, h4, h5, h6⟩ := h
  obtain ⟨k1, k2, k3, k4, k5, k6⟩ := h'
  exact ⟨k1.trans h1, k2.trans h2, k3.trans h3, k4.trans h4, k5.trans h5, k6.trans h6⟩

theorem Mgmt.takeReports_settings (rs : List Report) (m : Mgmt) :
    m.settingsKept (rs.foldl (fun m r => m.takeReport r) m) := by
  induction rs generalizing m with
  | nil => exact ⟨rfl, rfl, rfl, rfl, rfl, rfl⟩
  | cons r rs ih => exact (m.takeReport_settings r).trans (ih _)

/-- The reports of every block leave the settings of the management unit alone. -/
theorem drainReports_settings (s : State) : s.mgmt.settingsKept (drainReports s).mgmt := by
  unfold drainReports
  generalize reportSources = srcs
  induction srcs generalizing s with
  | nil => exact ⟨rfl, rfl, rfl, rfl, rfl, rfl⟩
  | cons src srcs ih =>
    have one : s.mgmt.settingsKept (drainFrom s src).mgmt := by
      simpa [drainFrom] using s.mgmt.takeReports_settings (s.reportsOf src)
    exact one.trans (ih _)

/-- The management unit is sound but for its grace timer: parameters, epoch, alerts and counters are in range. -/
def Mgmt.Bounded (m : Mgmt) : Prop :=
  m.params.Sound ∧ m.epoch ≠ 0 ∧ m.alerts.length ≤ Config.alertDepth ∧
    (∀ l : Link, ∀ n ∈ m.linkStats[l].counters, n ≤ Config.maxU32) ∧ ∀ n ∈ m.deviceStats.counters, n ≤ Config.maxU32

/-- A sound unit is one whose values are in range and whose grace timer runs exactly while a reset is pending. -/
theorem Mgmt.sound_iff (m : Mgmt) : m.Sound ↔ m.Bounded ∧ m.reset.isSome = m.grace.isSome := by
  simp only [Mgmt.Sound, Mgmt.Bounded, and_assoc]

theorem LinkStats.bump_bounded (k : LinkStat) (x : LinkStats) (h : ∀ n ∈ x.counters, n ≤ Config.maxU32) :
    ∀ n ∈ (x.bump k).counters, n ≤ Config.maxU32 := by
  cases k <;> simp_all [LinkStats.bump, LinkStats.counters, saturate_le]

theorem Mgmt.Bounded.raiseAlert {m : Mgmt} (h : m.Bounded) (a : Alert) : (m.raiseAlert a).Bounded := by
  obtain ⟨params, epoch, alerts, links, device⟩ := h
  unfold Mgmt.raiseAlert
  split
  · split
    case isTrue room => exact ⟨params, epoch, by simpa using room, links, device⟩
    case isFalse => exact ⟨params, epoch, alerts, links, by simp_all [DeviceStats.counters, saturate_le]⟩
  · exact ⟨params, epoch, alerts, links, device⟩

theorem Mgmt.Bounded.bumpLink {m : Mgmt} (h : m.Bounded) (l : Link) (k : LinkStat) : (m.bumpLink l k).Bounded := by
  obtain ⟨params, epoch, alerts, links, device⟩ := h
  refine ⟨params, epoch, alerts, fun q => ?_, device⟩
  show ∀ n ∈ ((tableSet m.linkStats l (m.linkStats[l].bump k))[q.val]).counters, n ≤ Config.maxU32
  rw [tableSet_get]
  split
  · exact LinkStats.bump_bounded k _ (links l)
  · exact links q

/-- A change of the device counters that stays within 32 bits, and of the faulted count, keeps the values in range. -/
theorem Mgmt.Bounded.countDevice {m : Mgmt} (h : m.Bounded) (d : DeviceStats) (n : Nat)
    (bounded : ∀ k ∈ d.counters, k ≤ Config.maxU32) : { m with deviceStats := d, faultedCount := n }.Bounded := by
  obtain ⟨params, epoch, alerts, links, _⟩ := h
  exact ⟨params, epoch, alerts, links, bounded⟩

theorem Mgmt.Bounded.takeReport {m : Mgmt} (h : m.Bounded) (r : Report) : (m.takeReport r).Bounded := by
  have ⟨_, _, _, _, device⟩ := h
  have faulted (n : Nat) : { m.bumpFaulted with faultedCount := n }.Bounded :=
    h.countDevice _ n (by simp_all [DeviceStats.counters, Mgmt.bumpFaulted, saturate_le])
  have expired : m.bumpExpired.Bounded := h.countDevice _ _ (by simp_all [DeviceStats.counters, saturate_le])
  have corrected : m.bumpCorrected.Bounded := h.countDevice _ _ (by simp_all [DeviceStats.counters, saturate_le])
  cases r with
  | stat l k => exact h.bumpLink l k
  | linkUp l => exact h.raiseAlert _
  | linkFailed l why =>
    simp only [Mgmt.takeReport]
    split
    exacts [h.raiseAlert _, (h.bumpLink l _).raiseAlert _]
  | sessionExpired s n => exact expired.raiseAlert _
  | sessionFaulted s => exact (faulted m.faultedCount).raiseAlert _
  | recordFaulted o => exact (faulted _).raiseAlert _
  | faultedFreed => exact h.countDevice _ _ device
  | recordCorrected => exact corrected

theorem Mgmt.Bounded.takeReports {m : Mgmt} (h : m.Bounded) (rs : List Report) :
    (rs.foldl (fun m r => m.takeReport r) m).Bounded := by
  induction rs generalizing m with
  | nil => exact h
  | cons r rs ih => exact ih (h.takeReport r)

theorem takeReportFrom_keepsMgmt (src : ReportSource) (s : State) (h : s.mgmt.Sound) :
    (takeReportFrom src s).mgmt.Sound := by
  unfold takeReportFrom
  split
  · exact h
  · next r rest _ =>
    obtain ⟨bounded, timer⟩ := s.mgmt.sound_iff.mp h
    obtain ⟨_, _, _, reset, grace, _⟩ := s.mgmt.takeReport_settings r
    simp only [setReports_mgmt, State.setMgmt_mgmt]
    exact (Mgmt.sound_iff _).mpr ⟨bounded.takeReport r, by rw [reset, grace, timer]⟩

theorem drainReports_bounded (s : State) (h : s.mgmt.Bounded) : (drainReports s).mgmt.Bounded := by
  unfold drainReports
  generalize reportSources = srcs
  induction srcs generalizing s with
  | nil => exact h
  | cons src srcs ih =>
    rw [List.foldl_cons]
    exact ih _ (by simpa [drainFrom] using h.takeReports _)

/-! ### Resets -/

/-- The performance of a reset clears the pending reset and the grace timer together (R184). -/
theorem performReset_mgmtSound (sc : Scope) (s : State) (h : s.mgmt.Bounded) : (performReset sc s).mgmt.Sound := by
  obtain ⟨params, _, _, links, device⟩ := drainReports_bounded s h
  have cleared : ((drainReports s).mgmt.clearedBy sc).Bounded :=
    ⟨params, advanceEpoch_ne_zero _, Nat.zero_le _, links, device⟩
  obtain ⟨_, _, _, reset, grace, _⟩ :=
    ((drainReports s).mgmt.clearedBy sc).raiseAlert_settings
      (.deviceReset sc (advanceEpoch (drainReports s).mgmt.epoch))
  exact (Mgmt.sound_iff _).mpr ⟨cleared.raiseAlert _, by simp only [performReset, Mgmt.deviceReset, reset, grace]; rfl⟩

theorem performPending_mgmtSound (s : State) (h : s.mgmt.Sound) : (performPending s).mgmt.Sound := by
  unfold performPending
  split
  exacts [performReset_mgmtSound _ s (s.mgmt.sound_iff.mp h).1, h]

/-- A grace timer that has run out stands for a pending reset, which is performed (R184). -/
theorem graceExpiry_mgmtSound (s : State) (h : s.mgmt.Sound) : (graceExpiry s).mgmt.Sound := by
  obtain ⟨bounded, timer⟩ := s.mgmt.sound_iff.mp h
  unfold graceExpiry
  split
  case isFalse => exact h
  case isTrue out =>
    obtain ⟨sc, pending⟩ : ∃ sc, s.mgmt.reset = some sc := Option.isSome_iff_exists.mp (by rw [timer, out]; rfl)
    simp only [performPending, State.setMgmt_mgmt, pending]
    exact performReset_mgmtSound sc _ bounded

theorem LinkStats.cleared_bounded : ∀ n ∈ ({} : LinkStats).counters, n ≤ Config.maxU32 := by decide

theorem Mgmt.initial_sound (cause : Cause) : (Mgmt.initial cause).Sound := by
  have links (l : Link) : (Mgmt.initial cause).linkStats[l] = {} := Vector.getElem_replicate _
  have params : (Mgmt.initial cause).params.Sound := by simp [Mgmt.initial, Params.Sound]
  have device : ∀ n ∈ (Mgmt.initial cause).deviceStats.counters, n ≤ Config.maxU32 := by
    simp [Mgmt.initial, DeviceStats.counters]
  exact ⟨params, by simp [Mgmt.initial], Nat.zero_le _, fun l => links l ▸ LinkStats.cleared_bounded, device, rfl⟩

/-! ### Device requests -/

theorem Params.Sound.set {pm : Params} (h : pm.Sound) (id : Byte) (v : Nat) (low : (paramRange id).1 ≤ v)
    (high : v ≤ (paramRange id).2) : (pm.set id v).Sound := by
  unfold Params.set
  unfold paramRange at low high
  unfold Params.Sound at *
  split <;> simp_all

theorem Mgmt.Sound.clearGroup {m : Mgmt} (h : m.Sound) (group : Nat) : (Machine.clearGroup group m).Sound := by
  obtain ⟨params, epoch, alerts, links, device, timer⟩ := h
  unfold Machine.clearGroup
  split
  case h_2 => exact ⟨params, epoch, alerts, links, by simp [DeviceStats.counters], timer⟩
  case h_1 l _ =>
    refine ⟨params, epoch, alerts, fun q => ?_, device, timer⟩
    show ∀ n ∈ ((tableSet m.linkStats l {})[q.val]).counters, n ≤ Config.maxU32
    rw [tableSet_get]
    split
    exacts [LinkStats.cleared_bounded, links q]

/-- LINK_CONTROL acts on a port alone. -/
theorem linkBody_mgmt (link command : Byte) (ctx : RequestContext) (s : State) :
    (linkStartBody link command ctx s).2.mgmt = s.mgmt ∧ (linkStopBody link ctx s).2.mgmt = s.mgmt := by
  unfold linkStartBody linkStopBody
  constructor <;> (repeat' split) <;> rfl

/-- A rule of the management unit keeps it sound. -/
theorem mgmtRule_keepsMgmt {req : Request} {body : MgmtBody} (rule : req.mgmtRule? = some body) (ctx : RequestContext)
    (s : State) (h : s.mgmt.Sound) : (body ctx s).2.mgmt.Sound := by
  have ⟨params, epoch, alerts, links, device, timer⟩ := h
  cases req <;> cases rule
  case identify => exact h
  case paramGet id => unfold paramGetBody; split <;> exact h
  case paramSet id v =>
    unfold paramSetBody
    simp only
    (repeat' split) <;> try exact h
    case isFalse inRange _ =>
      rw [applyParam_mgmt]
      exact ⟨params.set id v (by omega) (by omega), epoch, alerts, links, device, timer⟩
  case statsGet g clear =>
    unfold statsGetBody
    (repeat' split) <;> first | exact h | exact h.clearGroup _
  case linkControl link command =>
    obtain ⟨start, stop⟩ := linkBody_mgmt link command ctx s
    split
    exacts [stop ▸ h, start ▸ h]
  case deviceReset scope =>
    unfold deviceResetBody
    split
    exacts [h, ⟨params, epoch, alerts, links, device, rfl⟩]

theorem runMgmt_keepsMgmt {r : Presented} {body : MgmtBody} {refused : State → ReplyBody}
    (rule : r.request.mgmtRule? = some body) (s : State) (h : s.mgmt.Sound) :
    (runMgmt r body refused s).mgmt.Sound := by
  have served : (s.setMgmt { s.mgmt with lastServed := r.link }).mgmt.Sound := h
  unfold runMgmt
  simp only
  split
  exacts [served, mgmtRule_keepsMgmt rule _ _ served]

/-! ### Frames sent and fine ticks -/

theorem perform_keepsMgmt (p : Link) (s : State) (choice : Choice) (h : s.mgmt.Sound) :
    (perform p s choice).mgmt.Sound := by
  cases choice
  case alert a =>
    obtain ⟨params, epoch, alerts, links, device, timer⟩ := h
    have fewer : (perform p s (.alert a)).mgmt.alerts.length ≤ s.mgmt.alerts.length := by simp [perform, sendAlert]
    exact ⟨params, epoch, fewer.trans alerts, links, device, timer⟩
  case reply k r => exact (handOver_mgmt p k r s).symm ▸ h
  all_goals exact h

theorem selectNext_keepsMgmt (p : Link) (s : State) (h : s.mgmt.Sound) : (selectNext p s).mgmt.Sound :=
  perform_keepsMgmt p _ _ h

theorem settleExpiries_keepsMgmt (s : State) (h : s.mgmt.Sound) : (settleExpiries s).mgmt.Sound := by
  unfold settleExpiries
  exact graceExpiry_mgmtSound _ (by rwa [foldl_settlePort_mgmt])

theorem deliverFineTick_keepsMgmt (upsets : List Upset) (s : State) (h : s.mgmt.Sound) :
    (deliverFineTick upsets s).mgmt.Sound := by
  have settled : (disturbAll upsets (settleExpiries s)).mgmt.Sound := by
    rw [disturbAll_mgmt]
    exact settleExpiries_keepsMgmt s h
  unfold deliverFineTick
  simp only
  generalize disturbAll upsets (settleExpiries s) = u at settled
  split
  · exact settled
  · obtain ⟨params, epoch, alerts, links, device, timer⟩ := settled
    exact ⟨params, epoch, alerts, links, device, by simpa [advanceTick, countDown] using timer⟩

theorem idleCycle_keepsMgmt (s : State) (h : s.mgmt.Sound) : (idleCycle s).mgmt.Sound := by
  unfold idleCycle
  split
  exacts [h, deliverFineTick_keepsMgmt [] s h]

/-! ### Every command -/

theorem exec_keepsMgmt (c : Instr) (s t : State) (h : s.mgmt.Sound) (runs : exec c s = .next t) : t.mgmt.Sound := by
  by_cases engine : c.isEngineRow = true
  · rcases exec_engineRow c s engine with same | ⟨r, body, _, _, ran⟩
    · cases same.symm.trans runs; exact h
    · cases ran.symm.trans runs; exact h
  by_cases mgmt : c.isMgmtRow = true
  · rcases exec_mgmtRow c s mgmt with same | ⟨r, body, refused, _, rule, ran⟩
    · cases same.symm.trans runs; exact h
    · cases ran.symm.trans runs; exact runMgmt_keepsMgmt rule s h
  have alone (u : State) (kept : u.mgmt = s.mgmt) : u.mgmt.Sound := kept ▸ h
  cases c
  case fineTick upsets => cases runs; exact deliverFineTick_keepsMgmt upsets s h
  case graceTimerExpiry => cases runs; exact graceExpiry_mgmtSound s h
  case resetReplyAcked =>
    simp only [exec, execResetReplyAcked] at runs
    split at runs <;> cases runs
    exacts [performPending_mgmtSound _ h, h]
  case selectNextFrame p => cases runs; exact selectNext_keepsMgmt p s h
  case powerOn => cases runs; exact Mgmt.initial_sound _
  case resetN => cases runs; exact Mgmt.initial_sound _
  case managementReport src => cases runs; exact takeReportFrom_keepsMgmt src s h
  case dropNonRequest | slotFreeingReport | noticeAckReport | coarseTick | leaseExpiry | deadlineExpiry |
      patrolFaultReport =>
    simp only [exec, execDropNonRequest, execSlotFreeingReport, execNoticeAckReport, execCoarseTick, execLeaseExpiry,
      execDeadlineExpiry, execPatrolFaultReport] at runs
    (repeat' split at runs) <;> cases runs <;> refine alone _ ?_ <;> simp
  all_goals first
    | exact absurd rfl engine
    | exact absurd rfl mgmt
    | cases runs; refine alone _ ?_; simp

/-- Settles O57: the rules of the unit's own requests, the reports it takes and the resets it performs keep it sound,
and no other command touches it but for the alert that a sender takes. -/
theorem managementStaysSound : Obligations.ManagementStaysSound := fun _ _ h stepped =>
  step_keeps (P := fun s => s.mgmt.Sound) (fun _ _ h => h) idleCycle_keepsMgmt exec_keepsMgmt h stepped

end Sys2Proof.Machine
end

/-! The dispatchers stay sound (R120, R132): what each command does to the reply queues and to the ports' reports of
failure, and from that the statement O59. -/

section
namespace Sys2Proof.Machine

/-! ### Ports: what a failure report stands for -/

/-- A port that is down with no failure report outstanding at the dispatcher was so before. -/
def Port.downKept (x y : Port) : Prop :=
  y.state ≠ .up → y.failDispatcher = false → x.state ≠ .up ∧ x.failDispatcher = false

theorem Port.downKept.trans {x y z : Port} (h : x.downKept y) (h' : y.downKept z) : x.downKept z := fun down told =>
  have ⟨down', told'⟩ := h' down told
  h down' told'

theorem Port.downKept_of_same {x y : Port} (state : y.state = x.state) (told : y.failDispatcher = x.failDispatcher) :
    x.downKept y := fun h h' => ⟨state ▸ h, told ▸ h'⟩

theorem Port.downKept_of_down {x y : Port} (down : x.state ≠ .up) (told : y.failDispatcher = x.failDispatcher) :
    x.downKept y := fun _ h' => ⟨down, told ▸ h'⟩

theorem Port.downKept_refl (x : Port) : x.downKept x := fun h h' => ⟨h, h'⟩

/-- A failure makes its report. -/
theorem Port.downKept_of_told {x y : Port} (told : y.failDispatcher = true) : x.downKept y := fun _ h =>
  nomatch told.symm.trans h

@[simp] theorem Port.enterWaiting_failDispatcher (epoch : BitVec 16) (x : Port) :
    (x.enterWaiting epoch).failDispatcher = x.failDispatcher := by
  unfold Port.enterWaiting Port.enterGreeting
  simp only
  split <;> simp

theorem Port.autoRestarted_down (pm : Params) (epoch : BitVec 16) (l : Link) (x : Port) :
    x.downKept (x.autoRestarted pm epoch l) := by
  unfold Port.autoRestarted
  split
  case isTrue h => exact Port.downKept_of_down (by simp [h.1]) (Port.enterWaiting_failDispatcher _ _)
  case isFalse => exact x.downKept_refl

theorem Port.start_down (epoch : BitVec 16) (x : Port) : x.downKept (x.start epoch) := by
  unfold Port.start
  split
  case h_1 h => exact Port.downKept_of_down (by simp [h]) (Port.enterWaiting_failDispatcher _ _)
  case h_2 h => exact Port.downKept_of_down (by simp [h]) (Port.enterWaiting_failDispatcher _ _)
  case h_3 => exact x.downKept_refl

theorem Port.stop_down (l : Link) (x : Port) : x.downKept (x.stop l) := by
  unfold Port.stop
  split
  case h_1 h => exact Port.downKept_of_down (by simp [h]) rfl
  case h_2 => exact Port.downKept_of_told rfl
  case h_3 => exact Port.downKept_of_told rfl
  case h_4 h => exact Port.downKept_of_down (by simp [h]) rfl
  case h_5 => exact x.downKept_refl

theorem Port.laneBecomesReady_down (epoch : BitVec 16) (x : Port) : x.downKept (x.laneBecomesReady epoch) := by
  unfold Port.laneBecomesReady Port.enterGreeting
  simp only
  split
  case isTrue h => exact Port.downKept_of_down (by simp [h]) (Port.offerHello_failDispatcher _ _)
  case isFalse => exact Port.downKept_of_same rfl rfl

theorem Port.laneBecomesLost_down (pm : Params) (l : Link) (x : Port) : x.downKept (x.laneBecomesLost pm l) := by
  unfold Port.laneBecomesLost
  simp only
  split
  exacts [Port.downKept_of_told rfl, Port.downKept_of_same rfl rfl]

/-! ### Ports: frames received -/

@[simp] theorem Port.removeBefore_state (x : Port) (a : FrameNum) : (x.removeBefore a).state = x.state := by
  simp [Port.removeBefore, Port.foldl_reportRemoved]

@[simp] theorem Port.removeBefore_failDispatcher (x : Port) (a : FrameNum) :
    (x.removeBefore a).failDispatcher = x.failDispatcher := by
  simp [Port.removeBefore, Port.foldl_reportRemoved]

theorem Port.takeHeader_down (pm : Params) (l : Link) (a : FrameNum) (limit : Credit) (x : Port) :
    x.downKept (x.takeHeader pm l a limit) := by
  have ack : x.downKept ((x.hear false).takeAck pm l a) := by
    unfold Port.takeAck
    split
    · exact Port.downKept_of_same (Port.removeBefore_state _ _) (Port.removeBefore_failDispatcher _ _)
    · exact Port.downKept_of_told rfl
  have credit (y : Port) : y.downKept (y.takeLimit pm l limit) := by
    unfold Port.takeLimit
    split
    exacts [Port.downKept_of_same rfl rfl, Port.downKept_of_told rfl]
  unfold Port.takeHeader
  simp only
  split
  exacts [ack.trans (credit _), ack]

theorem Port.classifyData_down (pm : Params) (l : Link) (m : FrameNum) (msg : Message) (x : Port) :
    x.downKept (x.classifyData pm l m msg) := by
  unfold Port.classifyData
  (repeat' split) <;> first | exact Port.downKept_of_told rfl | exact Port.downKept_of_same rfl rfl

theorem Port.takeMark_down (n : FrameNum) (x : Port) : x.downKept (x.takeMark n) := by
  unfold Port.takeMark
  split <;> exact Port.downKept_of_same rfl rfl

theorem Port.takeRewind_down (l : Link) (n : FrameNum) (x : Port) : x.downKept (x.takeRewind l n) := by
  unfold Port.takeRewind
  split
  · exact Port.downKept_of_same (Port.removeBefore_state _ _) (Port.removeBefore_failDispatcher _ _)
  · exact Port.downKept_of_same rfl rfl

/-- What a frame does behind its ack and limit, where the port is UP before it and after them. -/
theorem Port.received_down (pm : Params) (l : Link) (a : FrameNum) (limit : Credit) (f : Port → Port) (x : Port)
    (down : ∀ y : Port, y.downKept (f y)) :
    x.downKept (if x.state = .up then
      (if (x.takeHeader pm l a limit).state = .up then f (x.takeHeader pm l a limit) else x.takeHeader pm l a limit)
      else x) := by
  have header := x.takeHeader_down pm l a limit
  (repeat' split)
  exacts [header.trans (down _), header, x.downKept_refl]

theorem Port.receiveData_down (pm : Params) (l : Link) (m a : FrameNum) (limit : Credit) (msg : Message) (x : Port) :
    x.downKept (x.receiveData pm l m a limit msg) :=
  Port.received_down pm l a limit _ x (Port.classifyData_down pm l m msg)

theorem Port.receiveIdle_down (pm : Params) (l : Link) (a : FrameNum) (limit : Credit) (x : Port) :
    x.downKept (x.receiveIdle pm l a limit) := by
  unfold Port.receiveIdle
  split
  exacts [x.takeHeader_down pm l a limit, x.downKept_refl]

theorem Port.receiveRewind_down (pm : Params) (l : Link) (a : FrameNum) (limit : Credit) (n : FrameNum) (x : Port) :
    x.downKept (x.receiveRewind pm l a limit n) :=
  Port.received_down pm l a limit _ x (Port.takeRewind_down l n)

theorem Port.receiveMark_down (pm : Params) (l : Link) (a : FrameNum) (limit : Credit) (n : FrameNum) (x : Port) :
    x.downKept (x.receiveMark pm l a limit n) :=
  Port.received_down pm l a limit _ x (Port.takeMark_down n)

theorem Port.rejectFrame_down (pm : Params) (l : Link) (x : Port) : x.downKept (x.rejectFrame pm l) := by
  unfold Port.rejectFrame
  simp only
  (repeat' split) <;> exact Port.downKept_of_same rfl rfl

theorem Port.helloWhileUp_down (pm : Params) (l : Link) (h : Hello) (x : Port) :
    x.downKept (x.helloWhileUp pm l h) := by
  unfold Port.helloWhileUp
  simp only
  split
  exacts [Port.downKept_of_same rfl rfl, Port.downKept_of_told rfl]

/-- A port that comes UP is UP. -/
theorem Port.comeUp_down (epoch : BitVec 16) (l : Link) (depth : Nat) (x : Port) :
    x.downKept (x.comeUp epoch l depth) := fun down =>
  absurd (by simp [Port.comeUp, Port.report]) down

/-! ### Ports: timers -/

theorem Port.greetingExpiry_down (pm : Params) (l : Link) (x : Port) : x.downKept (x.greetingExpiry pm l) := by
  unfold Port.greetingExpiry
  split
  exacts [Port.downKept_of_told rfl, x.downKept_refl]

theorem Port.helloExpiry_down (epoch : BitVec 16) (x : Port) : x.downKept (x.helloExpiry epoch) := by
  unfold Port.helloExpiry
  split
  exacts [Port.downKept_of_same (Port.offerHello_state _ _) (Port.offerHello_failDispatcher _ _), x.downKept_refl]

theorem Port.holdoffExpiry_down (pm : Params) (epoch : BitVec 16) (l : Link) (x : Port) :
    x.downKept (x.holdoffExpiry pm epoch l) := by
  unfold Port.holdoffExpiry
  split
  case isFalse => exact x.downKept_refl
  case isTrue h =>
    split
    · exact Port.downKept_of_down (by simp [h.1]) (Port.enterWaiting_failDispatcher _ _)
    · exact Port.downKept_of_same rfl rfl

theorem Port.silenceExpiry_down (pm : Params) (l : Link) (x : Port) : x.downKept (x.silenceExpiry pm l) := by
  unfold Port.silenceExpiry
  split
  exacts [Port.downKept_of_told rfl, x.downKept_refl]

theorem Port.rewindExpiry_down (pm : Params) (l : Link) (x : Port) : x.downKept (x.rewindExpiry pm l) := by
  unfold Port.rewindExpiry
  (repeat' split)
  exacts [Port.downKept_of_same rfl rfl, Port.downKept_of_told rfl, x.downKept_refl]

theorem Port.fineTick_down (pm : Params) (x : Port) : x.downKept (x.fineTick pm) := by
  unfold Port.fineTick Port.countSilence
  simp only
  split <;> exact Port.downKept_of_same rfl rfl

/-! ### Dispatchers -/

/-- A dispatcher and its port are sound together: the queue holds the occupied slots, and a dispatcher of a port that is
down holds nothing once it has been told. -/
def pathSound (x : Port) (d : Dispatcher) : Prop := d.Sound ∧ idlePath x d

/-- Every dispatcher and its port are sound together. -/
def pathsSound (s : State) : Prop := ∀ p, pathSound (s.port p) (s.disp p)

theorem pathSound.port {x y : Port} {d : Dispatcher} (h : pathSound x d) (down : x.downKept y) : pathSound y d :=
  have ⟨sound, idle⟩ := h
  ⟨sound, fun h h' => have ⟨hx, hx'⟩ := down h h'; idle hx hx'⟩

/-- The queue of a sound dispatcher that takes the contents `b`, not FREE, into a slot it holds already. -/
theorem Dispatcher.Sound.fill {d : Dispatcher} (h : d.Sound) (k : SlotIx) (x : Slot) (queued : k ∈ d.queue)
    (occupied : x.body ≠ .free) : (d.setSlot k x).Sound := by
  obtain ⟨nodup, held⟩ := h
  refine ⟨nodup, fun m => ?_⟩
  rw [Dispatcher.slot_setSlot, Dispatcher.setSlot_queue]
  split
  case isTrue same => subst same; exact iff_of_true occupied queued
  case isFalse => exact held m

theorem Dispatcher.Sound.take {d : Dispatcher} (h : d.Sound) (k : SlotIx) (x : Slot) (free : (d.slot k).body = .free)
    (occupied : x.body ≠ .free) : { d.setSlot k x with queue := d.queue ++ [k] }.Sound := by
  obtain ⟨nodup, held⟩ := h
  have fresh : k ∉ d.queue := fun queued => (held k).mpr queued free
  refine ⟨nodup.append (List.nodup_singleton k) (by simpa using fresh), fun m => ?_⟩
  show ((d.setSlot k x).slot m).body ≠ .free ↔ m ∈ d.queue ++ [k]
  rw [Dispatcher.slot_setSlot]
  split
  case isTrue same => subst same; simpa using occupied
  case isFalse other => simpa [Ne.symm other, eq_comm] using held m

/-- The head of the queue leaves it, and its slot is freed (R131). -/
theorem Dispatcher.Sound.freeHead {d : Dispatcher} (h : d.Sound) (p : Link) {k : SlotIx} {rest : List SlotIx}
    (head : d.queue = k :: rest) : ({ d with queue := rest }.freeSlot p k).Sound := by
  obtain ⟨nodup, held⟩ := h
  rw [head] at nodup held
  refine ⟨(List.nodup_cons.mp nodup).2, fun m => ?_⟩
  rw [Dispatcher.slot_freeSlot]
  show _ ↔ m ∈ rest
  split
  case isTrue same => subst same; simpa using (List.nodup_cons.mp nodup).1
  case isFalse other =>
    show (d.slot m).body ≠ .free ↔ m ∈ rest
    simpa [Ne.symm other, eq_comm] using held m

/-- A dispatcher that discards its queue is left with FREE slots and nothing queued (R132). -/
theorem Dispatcher.Sound.discardAll {d : Dispatcher} (h : d.Sound) (p : Link) : (d.discardAll p).Sound := by
  obtain ⟨_, held⟩ := h
  refine ⟨List.nodup_nil, fun m => ?_⟩
  rw [Dispatcher.slot_discardAll]
  show _ ↔ m ∈ []
  split
  case isTrue => simp
  case isFalse notQueued => simpa using mt (held m).mp notQueued

theorem Dispatcher.emptied_sound (d : Dispatcher) (free : ∀ k, (d.slot k).body = .free) (empty : d.queue = []) :
    d.Sound := ⟨empty ▸ List.nodup_nil, fun k => by simp [free k, empty]⟩

/-- Freeing reports and statistics are no part of the queue. -/
theorem Dispatcher.Sound.reports {d : Dispatcher} (h : d.Sound) (freed : List SlotRef) (out : List Report) :
    { d with freed := freed, out := out }.Sound := h

/-! ### What the sender chooses -/

/-- What holds where the sender of port `p` makes a choice (R149): each choice but HELLO is made in UP, a MARK and a
replayed frame are those due, and new DATA goes only where it may be sent. -/
def Choice.justified (p : Link) (s : State) : Choice → Prop
  | .hello => (s.port p).state = .greeting ∨ (s.port p).state = .up
  | .replay e => (s.port p).state = .up ∧ (s.port p).replayEntry? = some e
  | .reply k r => (s.port p).state = .up ∧ (s.port p).mayNew = true ∧ (s.disp p).headReply? = some (k, r)
  | .alert _ => (s.port p).state = .up ∧ (s.port p).mayNew = true
  | .notice _ _ _ => (s.port p).state = .up ∧ (s.port p).mayNew = true
  | .nothing => True
  | _ => (s.port p).state = .up

theorem chooseNew_justified {p : Link} {s : State} (up : (s.port p).state = .up) {choice : Choice}
    (chosen : chooseNew p s = some choice) : choice.justified p s := by
  unfold chooseNew at chosen
  split at chosen
  case isFalse => cases chosen
  case isTrue may =>
    split at chosen
    case h_1 k r head => cases chosen; exact ⟨up, may, head⟩
    case h_2 =>
      split at chosen
      case h_1 => cases chosen; exact ⟨up, may⟩
      case h_2 =>
        obtain ⟨_, _, rfl⟩ := Option.map_eq_some_iff.mp chosen
        exact ⟨up, may⟩

theorem choose_justified (p : Link) (s : State) : (choose p s).justified p s := by
  unfold choose
  split
  case h_1 greeting => split; exacts [.inl greeting, trivial]
  case h_3 => trivial
  case h_2 up =>
    have otherwise (last : Choice) (ok : last.justified p s) : ((chooseNew p s).getD last).justified p s := by
      cases new : chooseNew p s with
      | some choice => exact chooseNew_justified up new
      | none => exact ok
    unfold chooseUp
    simp only
    (repeat' split) <;> first
      | exact .inr up
      | exact up
      | exact otherwise _ up
      | exact otherwise _ trivial
      | exact ⟨up, by assumption⟩

/-! ### The paths of a state -/

section
variable {s : State} (h : pathsSound s)
include h

theorem pathsSound.modPort (p : Link) {f : Port → Port} (down : (s.port p).downKept (f (s.port p))) :
    pathsSound (s.modPort p f) := fun q => by
  rw [State.port_modPort, State.disp_modPort]
  split
  case isTrue same => subst same; exact (h p).port down
  case isFalse => exact h q

theorem pathsSound.modDisp (p : Link) {f : Dispatcher → Dispatcher} (path : pathSound (s.port p) (f (s.disp p))) :
    pathsSound (s.modDisp p f) := fun q => by
  rw [State.port_modDisp, State.disp_modDisp]
  split
  case isTrue same => subst same; exact path
  case isFalse => exact h q

/-- A state with the same dispatchers, whose ports have moved as `downKept` says. -/
theorem pathsSound.ports {t : State} (disps : t.disps = s.disps) (down : ∀ p, (s.port p).downKept (t.port p)) :
    pathsSound t := fun p => by
  have same : t.disp p = s.disp p := by simp only [State.disp, disps]
  exact same ▸ (h p).port (down p)

theorem pathsSound.same {t : State} (disps : t.disps = s.disps) (ports : t.ports = s.ports) : pathsSound t :=
  h.ports disps fun p => by simpa only [State.port, ports] using Port.downKept_refl _

theorem pathsSound.setCoord (c : Coord) : pathsSound (s.setCoord c) := h.same rfl rfl

theorem pathsSound.setMgmt (m : Mgmt) : pathsSound (s.setMgmt m) := h.same rfl rfl

/-- The port reports nothing new to the dispatcher, and its state stays. -/
theorem pathsSound.modPort_same (p : Link) {f : Port → Port} (state : (f (s.port p)).state = (s.port p).state)
    (told : (f (s.port p)).failDispatcher = (s.port p).failDispatcher) : pathsSound (s.modPort p f) :=
  h.modPort p (Port.downKept_of_same state told)

/-! ### Requests -/

/-- The answer to a request takes the place of the request. -/
theorem pathsSound.finish {r : Presented} (body : ReplyBody) (queued : r.slot ∈ (s.disp r.link).queue) :
    pathsSound (finishRequest r body s) :=
  have ⟨sound, idle⟩ := h r.link
  h.modDisp r.link ⟨sound.fill r.slot _ queued (by simp), idle⟩

theorem pathsSound.takeHeadRequest (p : Link) : pathsSound (takeHeadRequest p s) := by
  unfold Machine.takeHeadRequest
  (repeat' split) <;> try exact h
  case _ may _ _ m _ k _ free isRequest =>
    have up : (s.port p).state = .up := by simp_all [mayTake]
    have vacant : ((s.disp p).slot k).body = .free := by simpa [Dispatcher.freeSlot?] using List.find?_some free
    have occupied : checkedSlot p m s ≠ .free := by
      unfold checkedSlot
      split <;> simp
    intro q
    obtain ⟨sound, idle⟩ := h q
    simp only [takeInto, State.disp_setDisp, State.port_setDisp, State.port_modPort]
    split
    case isTrue same =>
      subst same
      exact ⟨sound.take k _ vacant occupied, fun down => absurd up down⟩
    case isFalse => exact ⟨sound, idle⟩

theorem pathsSound.takeFailureAtDispatcher (p : Link) : pathsSound (takeFailureAtDispatcher p s) := by
  unfold Machine.takeFailureAtDispatcher
  split
  case isFalse => exact h
  case isTrue =>
    intro q
    obtain ⟨sound, idle⟩ := h q
    simp only [State.port_modPort, State.disp_modPort, State.disp_modDisp, State.port_modDisp]
    split
    case isTrue same => subst same; exact ⟨sound.discardAll p, fun _ _ => rfl⟩
    case isFalse => exact ⟨sound, idle⟩

theorem pathsSound.takeFailureAtEngine (p : Link) : pathsSound (takeFailureAtEngine p s) := by
  unfold Machine.takeFailureAtEngine
  split
  exacts [(h.setCoord _).modPort_same p rfl rfl, h]

theorem pathsSound.takeFailureAtNotices (p : Link) : pathsSound (takeFailureAtNotices p s) := by
  unfold Machine.takeFailureAtNotices
  split
  exacts [(h.setCoord _).modPort_same p rfl rfl, h]

theorem pathsSound.settleFailure (p : Link) : pathsSound (settleFailure p s) :=
  ((h.takeFailureAtDispatcher p).takeFailureAtEngine p).takeFailureAtNotices p

theorem pathsSound.receiveHello (p : Link) (hello : Hello) : pathsSound (receiveHello p hello s) := by
  unfold Machine.receiveHello
  (repeat' split) <;> try exact h
  · exact (h.settleFailure p).modPort p (Port.comeUp_down _ _ _ _)
  · exact h.modPort_same p rfl rfl
  · exact h.modPort p (Port.helloWhileUp_down _ _ _ _)

/-! ### Frames sent -/

theorem pathsSound.handOver (p : Link) {k : SlotIx} {r : Reply} (head : (s.disp p).headReply? = some (k, r)) :
    pathsSound (handOver p k r s) := by
  obtain ⟨⟨rest, queue⟩, _⟩ := (headReply?_iff s p k r).mp head
  have sent : pathsSound (s.modPort p (Port.sendNew (.reply r.code) r.message)) := h.modPort_same p rfl rfl
  have handed : pathsSound ((s.modPort p (Port.sendNew (.reply r.code) r.message)).modDisp p fun d =>
      { d with queue := d.queue.tail }.freeSlot p k) := by
    obtain ⟨sound, idle⟩ := sent p
    rw [State.disp_modPort] at sound idle
    refine sent.modDisp p ⟨?_, fun down told => ?_⟩
    · simpa [queue] using sound.freeHead p queue
    · exact absurd (idle down told) (by simp [queue])
  unfold Machine.handOver
  simp only
  split
  exacts [handed.takeHeadRequest p, handed]

theorem pathsSound.perform (p : Link) (choice : Choice) (justified : choice.justified p s) :
    pathsSound (perform p s choice) := by
  cases choice with
  | reply k r => exact h.handOver p justified.2.2
  | alert a => exact (h.setMgmt _).modPort_same p rfl rfl
  | notice j g n => exact (h.setCoord _).modPort_same p rfl rfl
  | nothing => exact h
  | _ => exact h.modPort_same p rfl rfl

theorem pathsSound.selectNext (p : Link) : pathsSound (selectNext p s) :=
  pathsSound.perform (h.modPort_same p rfl rfl) p _ (choose_justified p _)

/-! ### Timers -/

theorem pathsSound.idleExpiry (p : Link) : pathsSound (idleExpiry p s) := by
  unfold Machine.idleExpiry
  simp only
  split
  exacts [h.modPort_same p rfl rfl, h]

theorem pathsSound.settlePort (p : Link) : pathsSound (settlePort s p) := by
  refine pathsSound.idleExpiry (h.modPort p ?_) p
  exact ((((Port.silenceExpiry_down _ _ _).trans (Port.rewindExpiry_down _ _ _)).trans
    (Port.greetingExpiry_down _ _ _)).trans (Port.helloExpiry_down _ _)).trans (Port.holdoffExpiry_down _ _ _ _)

theorem pathsSound.settlePorts (ps : List Link) : pathsSound (ps.foldl Machine.settlePort s) := by
  induction ps generalizing s with
  | nil => exact h
  | cons p ps ih => exact ih (h.settlePort p)

/-! ### Management requests -/

theorem pathsSound.applyParam (id : Byte) (v : Nat) : pathsSound (applyParam id v s) := by
  have ports (ls : List Link) (u : State) (hu : pathsSound u) :
      pathsSound (ls.foldl (fun s l => s.modPort l (Port.autoRestarted s.mgmt.params s.mgmt.epoch l)) u) := by
    induction ls generalizing u with
    | nil => exact hu
    | cons l ls ih => exact ih _ (hu.modPort l (Port.autoRestarted_down _ _ _ _))
  have set : pathsSound (s.setMgmt { s.mgmt with params := s.mgmt.params.set id v }) := h.setMgmt _
  unfold Machine.applyParam
  simp only
  split
  exacts [ports _ _ set, set]

end

/-- Slots and reply queues are the dispatchers' own: the rules of the management unit leave them alone. -/
theorem applyParam_disps (id : Byte) (v : Nat) (s : State) : (applyParam id v s).disps = s.disps := by
  have ports (ls : List Link) (u : State) :
      (ls.foldl (fun s l => s.modPort l (Port.autoRestarted s.mgmt.params s.mgmt.epoch l)) u).disps = u.disps := by
    induction ls generalizing u with
    | nil => rfl
    | cons l ls ih => rw [List.foldl_cons, ih, State.modPort_disps]
  unfold applyParam
  simp only
  split
  · rw [ports]; rfl
  · rfl

theorem mgmtRule_disps {req : Request} {body : MgmtBody} (rule : req.mgmtRule? = some body) (ctx : RequestContext)
    (s : State) : (body ctx s).2.disps = s.disps := by
  cases req <;> cases rule
  case paramGet id => unfold paramGetBody; split <;> rfl
  case paramSet id v => unfold paramSetBody; simp only; (repeat' split) <;> first | rfl | exact applyParam_disps _ _ _
  case statsGet g clear => unfold statsGetBody; (repeat' split) <;> rfl
  case linkControl link command =>
    split
    · unfold linkStopBody; simp only; (repeat' split) <;> rfl
    · unfold linkStartBody; simp only; (repeat' split) <;> rfl
  case deviceReset scope => unfold deviceResetBody; split <;> rfl
  case identify => rfl

theorem mgmtRule_paths {req : Request} {body : MgmtBody} (rule : req.mgmtRule? = some body) (ctx : RequestContext)
    {s : State} (h : pathsSound s) : pathsSound (body ctx s).2 := by
  cases req <;> cases rule
  case paramGet id => unfold paramGetBody; split <;> exact h
  case paramSet id v => unfold paramSetBody; simp only; (repeat' split) <;> first | exact h | exact h.applyParam _ _
  case statsGet g clear => unfold statsGetBody; (repeat' split) <;> exact h
  case linkControl link command =>
    split
    · unfold linkStopBody
      simp only
      (repeat' split) <;> first | exact h | exact h.modPort _ (Port.stop_down _ _)
    · unfold linkStartBody
      simp only
      (repeat' split) <;> first | exact h | exact h.modPort _ (Port.start_down _ _)
  case deviceReset scope => unfold deviceResetBody; split; exacts [h, h.setMgmt _]
  case identify => exact h

/-- The request that a unit is offered stands in its port's reply queue (R127). -/
theorem offered_queued {unit : Route} {last : Link} {s : State} {r : Presented}
    (offered : offer? unit last s = some r) :
    r.slot ∈ (s.disp r.link).queue := by
  obtain ⟨_, p, _, _, presented, _⟩ := List.findSome?_eq_some_iff.mp offered
  obtain ⟨rfl, _, _, _, before, after, queue, _⟩ := (presented?_iff s p unit r).mp presented
  simp [queue]

theorem runMgmt_paths {r : Presented} {body : MgmtBody} {refused : State → ReplyBody} {s : State}
    (offered : offer? .management s.mgmt.lastServed s = some r) (rule : r.request.mgmtRule? = some body)
    (h : pathsSound s) : pathsSound (runMgmt r body refused s) := by
  have queued := offered_queued offered
  have served : pathsSound (s.setMgmt { s.mgmt with lastServed := r.link }) := h.setMgmt _
  unfold runMgmt
  simp only
  split
  · exact served.finish _ queued
  · refine (mgmtRule_paths rule _ served).finish _ ?_
    simpa only [State.disp, mgmtRule_disps rule, State.setMgmt_disps] using queued

theorem runEngine_paths {r : Presented} (body : EngineBody) {s : State}
    (offered : offer? .engine s.engineLast s = some r) (h : pathsSound s) : pathsSound (runEngine r body s) := by
  rw [runEngine_eq]
  exact pathsSound.finish (h.same rfl rfl) _ (offered_queued offered)

/-! ### Resets and fine ticks -/

theorem Dispatcher.deviceReset_path (x : Port) (d : Dispatcher) : pathSound x d.deviceReset :=
  ⟨Dispatcher.emptied_sound _ (fun k => by simp [Dispatcher.slot, Dispatcher.deviceReset]) rfl, fun _ _ => rfl⟩

theorem Dispatcher.initial_path (x : Port) : pathSound x Dispatcher.initial :=
  ⟨Dispatcher.emptied_sound _ (fun k => by simp [Dispatcher.slot, Dispatcher.initial]) rfl, fun _ _ => rfl⟩

theorem performReset_paths (sc : Scope) (s : State) : pathsSound (performReset sc s) := fun p => by
  have reset : (performReset sc s).disp p = ((drainReports s).disp p).deviceReset := tableMap_get _ _ _ _
  exact reset ▸ Dispatcher.deviceReset_path _ _

theorem partReset_paths (cause : Cause) (s : State) : pathsSound (partReset cause s) := fun p => by
  have reset : (partReset cause s).disp p = Dispatcher.initial := Vector.getElem_replicate _
  exact reset ▸ Dispatcher.initial_path _

theorem performPending_paths {s : State} (h : pathsSound s) : pathsSound (performPending s) := by
  unfold performPending
  split
  exacts [performReset_paths _ s, h]

theorem graceExpiry_paths {s : State} (h : pathsSound s) : pathsSound (graceExpiry s) := by
  unfold graceExpiry
  split
  exacts [performPending_paths (h.setMgmt _), h]

theorem settleExpiries_paths {s : State} (h : pathsSound s) : pathsSound (settleExpiries s) := by
  unfold settleExpiries
  exact graceExpiry_paths (h.settlePorts _)

theorem deliverFineTick_paths (upsets : List Upset) {s : State} (h : pathsSound s) :
    pathsSound (deliverFineTick upsets s) := by
  have settled : pathsSound (disturbAll upsets (settleExpiries s)) := (settleExpiries_paths h).setCoord _
  unfold deliverFineTick
  simp only
  generalize disturbAll upsets (settleExpiries s) = u at settled
  split
  · exact settled
  · refine settled.ports rfl fun p => ?_
    have ticked : (advanceTick u).port p = (u.port p).fineTick u.mgmt.params := tableMap_get _ _ _ _
    exact ticked ▸ Port.fineTick_down _ _

theorem idleCycle_paths (s : State) (h : pathsSound s) : pathsSound (idleCycle s) := by
  unfold idleCycle
  split
  exacts [h.same rfl rfl, deliverFineTick_paths [] h]

/-! ### Every command -/

theorem takeReportFrom_paths (src : ReportSource) {s : State} (h : pathsSound s) :
    pathsSound (takeReportFrom src s) := by
  unfold takeReportFrom
  split
  · exact h
  · cases src with
    | port p => exact (h.setMgmt _).modPort_same p rfl rfl
    | dispatcher p => exact (h.setMgmt _).modDisp p (h p)
    | engine => exact (h.setMgmt _).setCoord _
    | integrity => exact (h.setMgmt _).setCoord _

@[simp] theorem patrolStep_disps (s : State) : (patrolStep s).disps = s.disps := by
  unfold patrolStep
  split <;> rfl

@[simp] theorem patrolStep_ports (s : State) : (patrolStep s).ports = s.ports := by
  unfold patrolStep
  split <;> rfl

theorem exec_paths (c : Instr) (s t : State) (h : pathsSound s) (runs : exec c s = .next t) : pathsSound t := by
  by_cases engine : c.isEngineRow = true
  · rcases exec_engineRow c s engine with same | ⟨r, body, offered, _, ran⟩
    · cases same.symm.trans runs; exact h
    · cases ran.symm.trans runs; exact runEngine_paths body offered h
  by_cases mgmt : c.isMgmtRow = true
  · rcases exec_mgmtRow c s mgmt with same | ⟨r, body, refused, offered, rule, ran⟩
    · cases same.symm.trans runs; exact h
    · cases ran.symm.trans runs; exact runMgmt_paths offered rule h
  cases c <;> first | exact absurd rfl engine | exact absurd rfl mgmt | skip
  case takeRequest p => cases runs; exact h.takeHeadRequest p
  case dropNonRequest p =>
    have dropped : pathsSound (s.modPort p Port.takeHead) := h.modPort_same p rfl rfl
    simp only [exec, execDropNonRequest] at runs
    (repeat' split at runs) <;> cases runs <;> first
      | exact h
      | exact dropped.modDisp p (dropped p)
  case slotFreeingReport r =>
    simp only [exec, execSlotFreeingReport] at runs
    split at runs <;> cases runs
    exacts [(h.setCoord _).modDisp r.port (h r.port), h]
  case orphanSessions p => cases runs; exact h.takeFailureAtEngine p
  case discardSlots p => cases runs; exact h.takeFailureAtDispatcher p
  case revertNotices p => cases runs; exact h.takeFailureAtNotices p
  case noticeAckReport p =>
    simp only [exec, execNoticeAckReport] at runs
    split at runs <;> cases runs
    exacts [h, (h.setCoord _).modPort_same p rfl rfl]
  case coarseTick first =>
    simp only [exec, execCoarseTick] at runs
    (repeat' split at runs) <;> cases runs
    · exact h
    all_goals exact h.same (by simp) (by simp)
  case leaseExpiry j =>
    simp only [exec, execLeaseExpiry] at runs
    split at runs <;> cases runs
    exacts [h.setCoord _, h]
  case deadlineExpiry w =>
    simp only [exec, execDeadlineExpiry] at runs
    split at runs <;> cases runs
    exacts [h.setCoord _, h]
  case patrolFaultReport =>
    simp only [exec, execPatrolFaultReport] at runs
    split at runs <;> cases runs
    exacts [h, h.same rfl rfl]
  case fineTick upsets => cases runs; exact deliverFineTick_paths upsets h
  case greetingTimerExpiry p => cases runs; exact h.modPort p (Port.greetingExpiry_down _ _ _)
  case helloTimerExpiry p => cases runs; exact h.modPort p (Port.helloExpiry_down _ _)
  case holdoffTimerExpiry p => cases runs; exact h.modPort p (Port.holdoffExpiry_down _ _ _ _)
  case idleTimerExpiry p => cases runs; exact h.idleExpiry p
  case silenceLimitReached p => cases runs; exact h.modPort p (Port.silenceExpiry_down _ _ _)
  case rewindTimerExpiry p => cases runs; exact h.modPort p (Port.rewindExpiry_down _ _ _)
  case graceTimerExpiry => cases runs; exact graceExpiry_paths h
  case resetReplyAcked =>
    simp only [exec, execResetReplyAcked] at runs
    split at runs <;> cases runs
    exacts [performPending_paths (h.modPort_same _ rfl rfl), h]
  case laneReady p => cases runs; exact h.modPort p (Port.laneBecomesReady_down _ _)
  case laneLost p => cases runs; exact h.modPort p (Port.laneBecomesLost_down _ _ _)
  case receiveData p num ack limit msg =>
    cases runs
    refine h.modPort p ?_
    split
    exacts [Port.receiveData_down _ _ _ _ _ _ _, Port.rejectFrame_down _ _ _]
  case receiveIdle p ack limit => cases runs; exact h.modPort p (Port.receiveIdle_down _ _ _ _ _)
  case receiveRewind p ack limit n => cases runs; exact h.modPort p (Port.receiveRewind_down _ _ _ _ _ _)
  case receiveMark p ack limit n => cases runs; exact h.modPort p (Port.receiveMark_down _ _ _ _ _ _)
  case receiveHello p hello => cases runs; exact h.receiveHello p hello
  case rejectedFrame p => cases runs; exact h.modPort p (Port.rejectFrame_down _ _ _)
  case selectNextFrame p => cases runs; exact h.selectNext p
  case powerOn => cases runs; exact partReset_paths _ s
  case resetN => cases runs; exact partReset_paths _ s
  case managementReport src => cases runs; exact takeReportFrom_paths src h

/-- Settles O59: a slot is occupied exactly while it is queued, through the taking of a request, its answer, its freeing
and the discarding of the queue, and a port goes down only with a report to its dispatcher. -/
theorem dispatchersStaySound : Obligations.DispatchersStaySound := fun _ _ h stepped =>
  step_keeps (P := pathsSound) (fun _ _ h => h) idleCycle_paths exec_paths h stepped

end Sys2Proof.Machine
end

/-! The ports stay sound (R137, R139, R143, R145, R146, R154, R162): what each event does to a port, and from that the
statement O58. -/

section
namespace Sys2Proof.Machine

/-! ### Ports that are down -/

/-- A port that is not UP is sound where it is quiet, its receiver half is at rest and its timers agree with its
state. -/
theorem Port.sound_of_quiet {x : Port} (down : x.state ≠ .up) (quiet : x.quiet)
    (rest : x.rewindTimer = none ∧ x.attempts = 0 ∧ x.rewindDue = false) (timed : x.timed) : x.Sound := by
  have ⟨rx, replay, accepting, position, _⟩ := quiet
  refine ⟨by simp [rx], by simp [replay], fun n h => ?_, fun pos h => ?_, ⟨fun h => ?_, fun _ => rest⟩, timed,
    fun _ => quiet, fun h => absurd h down⟩
  · simp [replay] at h
  · simp [position] at h
  · simp [accepting] at h

theorem Port.fail_sound (pm : Params) (l : Link) (why : FailReason) (x : Port) : (x.fail pm l why).Sound :=
  Port.sound_of_quiet (by simp [Port.fail]) ⟨rfl, rfl, rfl, rfl, rfl, rfl, rfl⟩ ⟨rfl, rfl, rfl⟩
    ⟨fun _ => ⟨rfl, rfl⟩, fun h => absurd rfl h⟩

theorem Port.Sound.offerHello {x : Port} (h : x.Sound) (epoch : BitVec 16) : (x.offerHello epoch).Sound := by
  unfold Port.offerHello
  split <;> exact h

/-- What a sound port that is down holds. -/
theorem Port.Sound.atRest {x : Port} (h : x.Sound) (down : x.state ≠ .up) :
    x.quiet ∧ (x.rewindTimer = none ∧ x.attempts = 0 ∧ x.rewindDue = false) ∧ x.timed := by
  obtain ⟨_, _, _, _, ⟨_, accepting⟩, timed, quiet, _⟩ := h
  exact ⟨quiet down, accepting (quiet down).2.2.1, timed⟩

theorem Port.Sound.enterGreeting {x : Port} (h : x.Sound) (down : x.state ≠ .up) (holdoff : x.holdoffTimer = none)
    (epoch : BitVec 16) : (x.enterGreeting epoch).Sound := by
  obtain ⟨quiet, rest, _⟩ := h.atRest down
  have greeting : Port.Sound { x with
      state := .greeting, seen := false, partnerDepth := none, greetingTimer := some Config.greetingTicks,
      helloTimer := some Config.helloTicks } :=
    Port.sound_of_quiet (by simp) quiet rest ⟨fun h => absurd rfl h, fun _ => holdoff⟩
  exact greeting.offerHello epoch

theorem Port.Sound.enterWaiting {x : Port} (h : x.Sound) (down : x.state ≠ .up) (ungreeted : x.state ≠ .greeting)
    (epoch : BitVec 16) : (x.enterWaiting epoch).Sound := by
  obtain ⟨quiet, rest, timers, _⟩ := h.atRest down
  have waiting : { x with state := .waiting, holdoffTimer := none }.Sound :=
    Port.sound_of_quiet (by simp) quiet rest ⟨fun _ => timers ungreeted, fun _ => rfl⟩
  unfold Port.enterWaiting
  simp only
  split
  exacts [waiting.enterGreeting (by simp) rfl epoch, waiting]

theorem Port.initial_sound : Port.initial.Sound :=
  Port.sound_of_quiet (by simp [Port.initial]) ⟨rfl, rfl, rfl, rfl, rfl, rfl, rfl⟩ ⟨rfl, rfl, rfl⟩
    ⟨fun _ => ⟨rfl, rfl⟩, fun _ => rfl⟩

theorem Port.afterReset_sound (epoch : BitVec 16) (x : Port) : (x.afterReset epoch).Sound := by
  have initial : { Port.initial with laneReady := x.laneReady }.Sound := Port.initial_sound
  exact initial.enterWaiting (by simp [Port.initial]) (by simp [Port.initial]) epoch

theorem Port.deviceReset_sound (epoch : BitVec 16) (x : Port) : (x.deviceReset epoch).Sound := by
  unfold Port.deviceReset
  split
  · exact Port.sound_of_quiet (by simp) ⟨rfl, rfl, rfl, rfl, rfl, rfl, rfl⟩ ⟨rfl, rfl, rfl⟩
      ⟨fun _ => ⟨rfl, rfl⟩, fun _ => rfl⟩
  · exact x.afterReset_sound epoch

/-! ### The replay buffer -/

/-- The oldest frame stands as many numbers behind the next one as there are frames (R144, R145). -/
theorem Port.oldest_eq {x : Port} (h : x.numbered) : x.oldest = x.nextNum - BitVec.ofNat 7 x.replay.length := by
  unfold Port.oldest
  cases buffer : x.replay with
  | nil => simp
  | cons e rest =>
    have first := h 0 (by simp [buffer])
    simpa [buffer] using first

/-- Frames removed and frames appended keep the numbering. -/
theorem Port.numbered_drop {x y : Port} (h : x.numbered) (n : Nat) (replay : y.replay = x.replay.drop n)
    (next : y.nextNum = x.nextNum) : y.numbered := by
  intro k hk
  rw [replay, List.length_drop] at hk
  have num := h (n + k) (by omega)
  simp only [replay, next, List.getElem_drop, List.length_drop, num]
  congr 2
  omega

theorem Port.numbered_append {x : Port} (h : x.numbered) (load : Carried) (msg : Message) :
    (x.appendNew load msg).numbered := by
  intro k hk
  have length : (x.appendNew load msg).replay.length = x.replay.length + 1 := by simp [Port.appendNew]
  rw [length] at hk ⊢
  show _ = x.nextNum + 1 - BitVec.ofNat 7 (x.replay.length + 1 - k)
  by_cases old : k < x.replay.length
  · have num : (x.appendNew load msg).replay[k].num = x.replay[k].num := by
      simp [Port.appendNew, List.getElem_append_left old]
    rw [num, h k old, Nat.succ_sub (by omega : k ≤ x.replay.length), Nat.succ_eq_add_one, BitVec.ofNat_add]
    bv_omega
  · obtain rfl : k = x.replay.length := by omega
    simp [Port.appendNew]

/-! ### Removed frames -/

/-- The removal of the frames before `a`, as a whole (R144, R161, R162). -/
theorem Port.removeBefore_eq (x : Port) (a : FrameNum) :
    x.removeBefore a =
      { x with
        noticeAcks := x.noticeAcks ++ noticesOf (x.replay.take (a - x.oldest).toNat)
        resetAck := x.resetAck || okResetReplyIn (x.replay.take (a - x.oldest).toNat)
        replay := x.replay.drop (a - x.oldest).toNat
        replayPos := x.replayAfterAck a (a - x.oldest).toNat } := by
  simp [Port.removeBefore, Port.foldl_reportRemoved]

/-- The oldest frame left behind the removal of the frames before `a` is `a`. -/
theorem Port.oldest_drop {x y : Port} (h : x.numbered) {a : FrameNum} (within : (a - x.oldest).toNat ≤ x.replay.length)
    (replay : y.replay = x.replay.drop (a - x.oldest).toNat) (next : y.nextNum = x.nextNum) : y.oldest = a := by
  have numbered : y.numbered := Port.numbered_drop h _ replay next
  rw [Port.oldest_eq numbered, replay, next, List.length_drop]
  have before := Port.oldest_eq h
  generalize hn : (a - x.oldest).toNat = n at within ⊢
  have size : BitVec.ofNat 7 (x.replay.length - n) = BitVec.ofNat 7 x.replay.length - BitVec.ofNat 7 n :=
    (BitVec.ofNat_sub_ofNat_of_le _ _ (hn ▸ BitVec.isLt _) within).symm
  have back : BitVec.ofNat 7 n = a - x.oldest := by rw [← hn, BitVec.ofNat_toNat, BitVec.setWidth_eq]
  rw [size, back, before]
  bv_omega

/-- The replay position, where it stays behind the frames removed, is as far behind the new oldest frame as it was, less
the frames removed. -/
theorem Port.positioned_removeBefore {x : Port} (numbered : x.numbered) (positioned : x.positioned) {a : FrameNum}
    (within : (a - x.oldest).toNat ≤ x.replay.length) : (x.removeBefore a).positioned := by
  intro pos hpos
  have oldest : (x.removeBefore a).oldest = a :=
    Port.oldest_drop numbered within (by rw [Port.removeBefore_eq]) (by rw [Port.removeBefore_eq])
  have length : (x.removeBefore a).replay.length = x.replay.length - (a - x.oldest).toNat := by
    simp [Port.removeBefore_eq]
  have after : x.replayAfterAck a (a - x.oldest).toNat = some pos := by rw [Port.removeBefore_eq] at hpos; exact hpos
  rw [oldest, length]
  unfold Port.replayAfterAck at after
  split at after
  case h_1 => cases after
  case h_2 old hold =>
    have bound := positioned old hold
    split at after
    case isTrue => cases after
    case isFalse left =>
      split at after
      case isTrue => cases after; rw [BitVec.sub_self, BitVec.toNat_zero]; omega
      case isFalse behind =>
        cases after
        have apart : pos - a = (pos - x.oldest) - (a - x.oldest) := by bv_omega
        rw [apart, BitVec.toNat_sub_of_le (BitVec.le_def.mpr (by omega))]
        omega

theorem Port.Sound.removeBefore {x : Port} (h : x.Sound) (up : x.state = .up) {a : FrameNum}
    (within : (a - x.oldest).toNat ≤ x.replay.length) : (x.removeBefore a).Sound := by
  obtain ⟨rx, depth, numbered, positioned, recovering, timed, _, running⟩ := h
  have position := Port.positioned_removeBefore numbered positioned within
  rw [Port.removeBefore_eq] at position ⊢
  exact ⟨rx, le_trans (by simp) depth, Port.numbered_drop numbered _ rfl rfl, position, recovering, timed,
    fun h => absurd up h, running⟩

/-! ### Frames received -/

theorem Port.Sound.hear {x : Port} (h : x.Sound) (up : x.state = .up) (hello : Bool) : (x.hear hello).Sound := by
  obtain ⟨rx, depth, numbered, positioned, recovering, timed, _, running⟩ := h
  exact ⟨rx, depth, numbered, positioned, recovering, timed, fun h => absurd up h, running⟩

theorem Port.Sound.takeAck {x : Port} (h : x.Sound) (up : x.state = .up) (pm : Params) (l : Link) (a : FrameNum) :
    (x.takeAck pm l a).Sound := by
  unfold Port.takeAck
  split
  case isTrue within => exact h.removeBefore up within
  case isFalse => exact x.fail_sound pm l .protocol

theorem Port.Sound.takeLimit {x : Port} (h : x.Sound) (up : x.state = .up) (pm : Params) (l : Link) (limit : Credit) :
    (x.takeLimit pm l limit).Sound := by
  unfold Port.takeLimit
  split
  case isFalse => exact x.fail_sound pm l .protocol
  case isTrue granted =>
    obtain ⟨rx, depth, numbered, positioned, recovering, timed, _, running⟩ := h
    obtain ⟨⟨d, known, low, high, _⟩, rest⟩ := running up
    exact ⟨rx, depth, numbered, positioned, recovering, timed, fun h => absurd up h,
      fun _ => ⟨⟨d, known, low, high, by simpa [Port.credit, known] using granted⟩, rest⟩⟩

theorem Port.Sound.takeHeader {x : Port} (h : x.Sound) (up : x.state = .up) (pm : Params) (l : Link) (a : FrameNum)
    (limit : Credit) : (x.takeHeader pm l a limit).Sound := by
  have heard : (x.hear false).Sound := h.hear up false
  have acked := heard.takeAck up pm l a
  unfold Port.takeHeader
  simp only
  split
  case isTrue still => exact acked.takeLimit still pm l limit
  case isFalse => exact acked

theorem Port.Sound.enterDiscarding {x : Port} (h : x.Sound) (up : x.state = .up) (pm : Params) :
    (x.enterDiscarding pm).Sound := by
  obtain ⟨rx, depth, numbered, positioned, _, timed, _, running⟩ := h
  exact ⟨rx, depth, numbered, positioned,
    ⟨fun _ => ⟨rfl, by simp [Port.enterDiscarding], by simp [Port.enterDiscarding]⟩, fun h => nomatch h⟩, timed,
    fun h => absurd up h, running⟩

theorem Port.Sound.classifyData {x : Port} (h : x.Sound) (up : x.state = .up) (pm : Params) (l : Link) (m : FrameNum)
    (msg : Message) : (x.classifyData pm l m msg).Sound := by
  unfold Port.classifyData
  (repeat' split)
  · exact h
  · exact x.fail_sound pm l .protocol
  case _ room =>
    obtain ⟨rx, depth, numbered, positioned, recovering, timed, _, running⟩ := h
    exact ⟨by simpa [Port.count, Port.report] using room, depth, numbered, positioned, recovering, timed,
      fun h => absurd up h, running⟩
  · exact h
  · exact Port.Sound.enterDiscarding (x := x.count l .sequenceErrors) h up pm

theorem Port.Sound.takeMark {x : Port} (h : x.Sound) (up : x.state = .up) (n : FrameNum) : (x.takeMark n).Sound := by
  unfold Port.takeMark
  split
  case isFalse => exact h
  case isTrue =>
    obtain ⟨rx, depth, numbered, positioned, _, timed, _, running⟩ := h
    exact ⟨rx, depth, numbered, positioned, ⟨fun h => (nomatch h), fun _ => ⟨rfl, rfl, rfl⟩⟩, timed,
      fun h => absurd up h, running⟩

theorem Port.Sound.takeRewind {x : Port} (h : x.Sound) (up : x.state = .up) (l : Link) (n : FrameNum) :
    (x.takeRewind l n).Sound := by
  unfold Port.takeRewind
  split
  case isFalse => exact h
  case isTrue within =>
    have oldest : (x.removeBefore n).oldest = n :=
      Port.oldest_drop h.2.2.1 within (by rw [Port.removeBefore_eq]) (by rw [Port.removeBefore_eq])
    have up' : (x.removeBefore n).state = .up := (x.removeBefore_state n).trans up
    have removed := h.removeBefore up within
    generalize x.removeBefore n = y at removed oldest up'
    obtain ⟨rx, depth, numbered, _, recovering, timed, _, running⟩ := removed
    refine ⟨rx, depth, numbered, fun pos hpos => ?_, recovering, timed, fun h => absurd up' h, running⟩
    show (pos - y.oldest).toNat < y.replay.length
    have position : (if y.replay = [] then none else some n) = some pos := hpos
    split at position
    case isTrue => cases position
    case isFalse left => cases position; simpa [oldest, List.length_pos_iff] using left

/-- A frame that an UP port takes and that acts only where its ack and limit leave the port UP. -/
theorem Port.Sound.received {x : Port} (h : x.Sound) (pm : Params) (l : Link) (a : FrameNum) (limit : Credit)
    (f : Port → Port) (acts : ∀ y : Port, y.Sound → y.state = .up → (f y).Sound) :
    Port.Sound (if x.state = .up then
      (if (x.takeHeader pm l a limit).state = .up then f (x.takeHeader pm l a limit) else x.takeHeader pm l a limit)
      else x) := by
  split
  case isFalse => exact h
  case isTrue up =>
    have header := h.takeHeader up pm l a limit
    split
    case isTrue still => exact acts _ header still
    case isFalse => exact header

theorem Port.Sound.receiveData {x : Port} (h : x.Sound) (pm : Params) (l : Link) (m a : FrameNum) (limit : Credit)
    (msg : Message) : (x.receiveData pm l m a limit msg).Sound :=
  h.received pm l a limit _ fun _ hy up => hy.classifyData up pm l m msg

theorem Port.Sound.receiveIdle {x : Port} (h : x.Sound) (pm : Params) (l : Link) (a : FrameNum) (limit : Credit) :
    (x.receiveIdle pm l a limit).Sound := by
  unfold Port.receiveIdle
  split
  case isTrue up => exact h.takeHeader up pm l a limit
  case isFalse => exact h

theorem Port.Sound.receiveRewind {x : Port} (h : x.Sound) (pm : Params) (l : Link) (a : FrameNum) (limit : Credit)
    (n : FrameNum) : (x.receiveRewind pm l a limit n).Sound :=
  h.received pm l a limit _ fun _ hy up => hy.takeRewind up l n

theorem Port.Sound.receiveMark {x : Port} (h : x.Sound) (pm : Params) (l : Link) (a : FrameNum) (limit : Credit)
    (n : FrameNum) : (x.receiveMark pm l a limit n).Sound :=
  h.received pm l a limit _ fun _ hy up => hy.takeMark up n

theorem Port.Sound.rejectFrame {x : Port} (h : x.Sound) (pm : Params) (l : Link) : (x.rejectFrame pm l).Sound := by
  unfold Port.rejectFrame
  split
  case h_1 => exact h
  case h_3 => exact h
  case h_2 up =>
    simp only
    split
    exacts [h, Port.Sound.enterDiscarding (x := x.count l .framesRejected) h up pm]

theorem Port.Sound.helloWhileUp {x : Port} (h : x.Sound) (up : x.state = .up) (pm : Params) (l : Link) (hello : Hello) :
    (x.helloWhileUp pm l hello).Sound := by
  unfold Port.helloWhileUp
  simp only
  split
  exacts [h.hear up true, Port.fail_sound _ _ _ _]

theorem Port.Sound.helloSeen {x : Port} (h : x.Sound) (down : x.state ≠ .up) (hello : Hello) :
    (x.helloSeen hello).Sound := by
  obtain ⟨quiet, rest, timed⟩ := h.atRest down
  exact Port.sound_of_quiet down quiet rest timed

/-- A port comes UP with the credit of its partner's whole buffer (R140). -/
theorem Port.Sound.comeUp {x : Port} (h : x.Sound) (greeting : x.state = .greeting) {depth : Nat} (low : 1 ≤ depth)
    (high : depth ≤ 16) (told : x.failDispatcher = false ∧ x.failEngine = false ∧ x.failNotices = false)
    (epoch : BitVec 16) (l : Link) : (x.comeUp epoch l depth).Sound := by
  obtain ⟨_, _, _, holdoff⟩ := h.atRest (by simp [greeting])
  have credit : (BitVec.ofNat 8 depth - 0).toNat ≤ depth := by simp; omega
  have risen (y : Port) (core : y = { x.resetRecovery with
      state := .up, seen := true, partnerDepth := some depth, greetingTimer := none, helloTimer := none, nextNum := 0,
      expected := 0, sentCount := 0, taken := 0, partnerLimit := BitVec.ofNat 8 depth, replay := [], rxBuffer := [],
      partnerHeard := false, lastServed := 31, silence := 0, silenceDue := false, idleTimer := some Config.idleTicks,
      lastAdvertised := none }) : y.Sound := by
    subst core
    have numbered (n : Nat) (h : n < ([] : List ReplayEntry).length) : False := Nat.not_lt_zero n h
    exact ⟨Nat.zero_le _, Nat.zero_le _, fun n h => (numbered n h).elim, fun pos h => (nomatch h),
      ⟨fun h => (nomatch h), fun _ => ⟨rfl, rfl, rfl⟩⟩, ⟨fun _ => ⟨rfl, rfl⟩, fun _ => holdoff (by simp [greeting])⟩,
      fun h => absurd rfl h, fun _ => ⟨⟨depth, rfl, low, high, credit⟩, rfl, told⟩⟩
  exact (risen _ rfl).offerHello epoch

/-! ### Lanes, START and STOP -/

theorem Port.Sound.laneBecomesReady {x : Port} (h : x.Sound) (epoch : BitVec 16) :
    (x.laneBecomesReady epoch).Sound := by
  have told : { x with laneReady := true }.Sound := h
  unfold Port.laneBecomesReady
  simp only
  split
  case isFalse => exact told
  case isTrue waiting =>
    obtain ⟨_, _, _, holdoff⟩ := h.atRest (by simp [waiting])
    exact told.enterGreeting (by simp [waiting]) (holdoff (by simp [waiting])) epoch

theorem Port.Sound.laneBecomesLost {x : Port} (h : x.Sound) (pm : Params) (l : Link) :
    (x.laneBecomesLost pm l).Sound := by
  unfold Port.laneBecomesLost
  simp only
  split
  exacts [Port.fail_sound _ _ _ _, h]

theorem Port.Sound.start {x : Port} (h : x.Sound) (epoch : BitVec 16) : (x.start epoch).Sound := by
  unfold Port.start
  split
  case h_1 off => exact h.enterWaiting (by simp [off]) (by simp [off]) epoch
  case h_2 failed => exact h.enterWaiting (by simp [failed]) (by simp [failed]) epoch
  case h_3 => exact h

theorem Port.Sound.autoRestarted {x : Port} (h : x.Sound) (pm : Params) (epoch : BitVec 16) (l : Link) :
    (x.autoRestarted pm epoch l).Sound := by
  unfold Port.autoRestarted
  split
  case isTrue failed => exact h.enterWaiting (by simp [failed.1]) (by simp [failed.1]) epoch
  case isFalse => exact h

theorem Port.Sound.stop {x : Port} (h : x.Sound) (l : Link) : (x.stop l).Sound := by
  have broken (why : FailReason) : { x.breakDown l why with state := .off }.Sound :=
    Port.sound_of_quiet (by simp) ⟨rfl, rfl, rfl, rfl, rfl, rfl, rfl⟩ ⟨rfl, rfl, rfl⟩
      ⟨fun _ => ⟨rfl, rfl⟩, fun _ => rfl⟩
  unfold Port.stop
  split
  case h_1 waiting =>
    obtain ⟨quiet, rest, timers, holdoff⟩ := h.atRest (by simp [waiting])
    exact Port.sound_of_quiet (by simp) quiet rest
      ⟨fun _ => timers (by simp [waiting]), fun _ => holdoff (by simp [waiting])⟩
  case h_2 => exact broken _
  case h_3 => exact broken _
  case h_4 failed =>
    obtain ⟨quiet, rest, timers, _⟩ := h.atRest (by simp [failed])
    exact Port.sound_of_quiet (by simp) quiet rest ⟨fun _ => timers (by simp [failed]), fun _ => rfl⟩
  case h_5 => exact h

/-! ### Timers -/

theorem Port.Sound.greetingExpiry {x : Port} (h : x.Sound) (pm : Params) (l : Link) :
    (x.greetingExpiry pm l).Sound := by
  unfold Port.greetingExpiry
  split
  exacts [x.fail_sound pm l .noGreeting, h]

theorem Port.Sound.helloExpiry {x : Port} (h : x.Sound) (epoch : BitVec 16) : (x.helloExpiry epoch).Sound := by
  unfold Port.helloExpiry
  split
  case isFalse => exact h
  case isTrue due =>
    obtain ⟨quiet, rest, _, holdoff⟩ := h.atRest (by simp [due.1])
    have restarted : { x with helloTimer := some Config.helloTicks }.Sound :=
      Port.sound_of_quiet (by simp [due.1]) quiet rest ⟨fun h => absurd due.1 h, holdoff⟩
    exact restarted.offerHello epoch

theorem Port.Sound.holdoffExpiry {x : Port} (h : x.Sound) (pm : Params) (epoch : BitVec 16) (l : Link) :
    (x.holdoffExpiry pm epoch l).Sound := by
  unfold Port.holdoffExpiry
  split
  case isFalse => exact h
  case isTrue due =>
    split
    · exact h.enterWaiting (by simp [due.1]) (by simp [due.1]) epoch
    · obtain ⟨quiet, rest, timers, _⟩ := h.atRest (by simp [due.1])
      exact Port.sound_of_quiet (by simp [due.1]) quiet rest ⟨timers, fun _ => rfl⟩

theorem Port.Sound.silenceExpiry {x : Port} (h : x.Sound) (pm : Params) (l : Link) : (x.silenceExpiry pm l).Sound := by
  unfold Port.silenceExpiry
  split
  exacts [x.fail_sound pm l .silence, h]

/-- The attempts stay within the limit, which is at most 15 (R158, R168). -/
theorem Port.Sound.rewindExpiry {x : Port} (h : x.Sound) {pm : Params} (params : pm.Sound) (l : Link) :
    (x.rewindExpiry pm l).Sound := by
  have limit : pm.rewindLimit ≤ 15 := by simp_all [Params.Sound]
  unfold Port.rewindExpiry
  split
  case isFalse => exact h
  case isTrue due =>
    obtain ⟨up, discarding, _⟩ := due
    split
    case isFalse => exact x.fail_sound pm l .rewindLimit
    case isTrue below =>
      obtain ⟨rx, depth, numbered, positioned, _, timed, _, running⟩ := h
      exact ⟨rx, depth, numbered, positioned,
        ⟨fun _ => ⟨rfl, by simp, by show x.attempts + 1 ≤ 15; omega⟩,
          fun accepting => nomatch discarding.symm.trans accepting⟩,
        timed, fun h => absurd up h, running⟩

@[simp] theorem countDown_none : countDown none = none := rfl

@[simp] theorem countDown_isSome (t : Option Nat) : (countDown t).isSome = t.isSome := by simp [countDown]

theorem Port.Sound.countSilence {x : Port} (h : x.Sound) (pm : Params) : (x.countSilence pm).Sound := by
  unfold Port.countSilence
  split
  case isFalse => exact h
  case isTrue up =>
    obtain ⟨rx, depth, numbered, positioned, recovering, timed, _, running⟩ := h
    exact ⟨rx, depth, numbered, positioned, recovering, timed, fun h => absurd up h, running⟩

/-- A timer that is stopped stays stopped, and one that runs counts. -/
theorem Port.Sound.fineTick {x : Port} (h : x.Sound) (pm : Params) : (x.fineTick pm).Sound := by
  obtain ⟨rx, depth, numbered, positioned, ⟨discarding, accepting⟩, ⟨greeting, holdoff⟩, quiet, running⟩ := h
  have counted : Port.Sound { x with
      greetingTimer := countDown x.greetingTimer, helloTimer := countDown x.helloTimer,
      holdoffTimer := countDown x.holdoffTimer, idleTimer := countDown x.idleTimer,
      rewindTimer := countDown x.rewindTimer } := by
    refine ⟨rx, depth, numbered, positioned, ⟨fun h => ?_, fun h => ?_⟩, ⟨fun h => ?_, fun h => ?_⟩, quiet, running⟩
    · exact ⟨(countDown_isSome _).trans (discarding h).1, (discarding h).2⟩
    · exact ⟨congrArg countDown (accepting h).1, (accepting h).2⟩
    · exact ⟨congrArg countDown (greeting h).1, congrArg countDown (greeting h).2⟩
    · exact congrArg countDown (holdoff h)
  exact counted.countSilence pm

/-! ### Frames sent -/

theorem Port.Sound.launchWith {x : Port} (h : x.Sound) (f : FrameNum → Credit → Frame) : (x.launchWith f).Sound := h

theorem Port.Sound.sendHello {x : Port} (h : x.Sound) (epoch : BitVec 16) : (x.sendHello epoch).Sound := h

theorem Port.Sound.sendRewind {x : Port} (h : x.Sound) (up : x.state = .up) (l : Link) : (x.sendRewind l).Sound := by
  obtain ⟨rx, depth, numbered, positioned, ⟨discarding, accepting⟩, timed, _, running⟩ := h
  exact ⟨rx, depth, numbered, positioned, ⟨discarding, fun h => ⟨(accepting h).1, (accepting h).2.1, rfl⟩⟩, timed,
    fun h => absurd up h, running⟩

theorem Port.Sound.sendMark {x : Port} (h : x.Sound) (up : x.state = .up) (n : FrameNum) : (x.sendMark n).Sound := by
  obtain ⟨rx, depth, numbered, positioned, recovering, timed, _, running⟩ := h
  exact ⟨rx, depth, numbered, positioned, recovering, timed, fun h => absurd up h, running⟩

theorem Port.mayNew_iff (x : Port) :
    x.mayNew = true ↔ x.replay.length < 24 ∧ 1 ≤ x.credit ∧ x.credit ≤ x.partnerDepth.getD 0 := by
  rw [Port.mayNew, Bool.and_eq_true, decide_eq_true_eq, decide_eq_true_eq]
  rfl

/-- A new frame leaves the oldest one where it is, and has its own number where there was none. -/
theorem Port.oldest_append (x : Port) (load : Carried) (msg : Message) : (x.appendNew load msg).oldest = x.oldest := by
  unfold Port.oldest Port.appendNew
  cases x.replay <;> rfl

/-- A new frame finds room and uses one unit of credit (R145, R146). -/
theorem Port.Sound.sendNew {x : Port} (h : x.Sound) (up : x.state = .up) (may : x.mayNew = true) (load : Carried)
    (msg : Message) : (x.sendNew load msg).Sound := by
  obtain ⟨rx, _, numbered, positioned, recovering, timed, _, running⟩ := h
  obtain ⟨⟨d, known, low, high, _⟩, rest⟩ := running up
  obtain ⟨room, some, within⟩ := x.mayNew_iff.mp may
  rw [known, Option.getD_some] at within
  have length : (x.appendNew load msg).replay.length = x.replay.length + 1 := by simp [Port.appendNew]
  have credit : (x.appendNew load msg).credit ≤ d := by
    have lower : (x.appendNew load msg).credit = (x.partnerLimit - (x.sentCount + 1)).toNat := rfl
    unfold Port.credit at some within
    rw [lower]
    bv_omega
  have depth : (x.appendNew load msg).replay.length ≤ Config.replayDepth := by
    rw [length]
    exact room
  have running : (x.appendNew load msg).running := ⟨⟨d, known, low, high, credit⟩, rest⟩
  refine Port.Sound.launchWith (x := x.appendNew load msg) ⟨rx, depth, x.numbered_append numbered load msg,
    fun pos h => ?_, recovering, timed, fun h => absurd up h, fun _ => running⟩ _
  have here := positioned pos h
  rw [Port.oldest_append, length]
  omega

/-- The replay moves to the next frame of the buffer, and ends behind the last (R162). -/
theorem Port.Sound.sendReplay {x : Port} (h : x.Sound) (up : x.state = .up) {e : ReplayEntry}
    (due : x.replayEntry? = some e) : (x.sendReplay e).Sound := by
  obtain ⟨rx, depth, numbered, positioned, recovering, timed, _, running⟩ := h
  refine Port.Sound.launchWith (x := { x with replayPos := if e.num + 1 = x.nextNum then none else some (e.num + 1) })
    ⟨rx, depth, numbered, fun pos h => ?_, recovering, timed, fun h => absurd up h, running⟩ _
  have last : ¬ e.num + 1 = x.nextNum ∧ e.num + 1 = pos := by
    have moved : (if e.num + 1 = x.nextNum then none else some (e.num + 1)) = some pos := h
    split at moved
    case isTrue => nomatch moved
    case isFalse further => exact ⟨further, Option.some.inj moved⟩
  show (pos - x.oldest).toNat < x.replay.length
  unfold Port.replayEntry? at due
  split at due
  case h_2 => nomatch due
  case h_1 at_ _ =>
    obtain ⟨hk, found⟩ := List.getElem?_eq_some_iff.mp due
    have num := numbered _ hk
    rw [found] at num
    have oldest := x.oldest_eq numbered
    have size : x.replay.length ≤ 24 := depth
    obtain ⟨notLast, rfl⟩ := last
    clear found due h
    generalize x.replay.length = len at *
    generalize (at_ - x.oldest).toNat = k at *
    have ofs : (BitVec.ofNat 7 (len - k)).toNat = len - k := by simp; omega
    have all : (BitVec.ofNat 7 len).toNat = len := by simp; omega
    have further : len - k ≠ 1 := by
      intro one
      apply notLast
      rw [num, one]
      simp
    rw [num, oldest]
    bv_omega

end Sys2Proof.Machine
end

/-! Every step keeps the ports sound: the events of `Port.Sound` carried to the state, and from that the statement
O58. -/

section
namespace Sys2Proof.Machine

/-- Every port of the part is sound. -/
def portsSound (s : State) : Prop := ∀ p, (s.port p).Sound

/-- A failure report taken is no longer outstanding. -/
theorem Port.Sound.reportsTaken {x : Port} (h : x.Sound) {dispatcher engine notices : Bool}
    (fewer : dispatcher = true → x.failDispatcher = true) (fewer' : engine = true → x.failEngine = true)
    (fewer'' : notices = true → x.failNotices = true) :
    { x with failDispatcher := dispatcher, failEngine := engine, failNotices := notices }.Sound := by
  obtain ⟨rx, depth, numbered, positioned, recovering, timed, quiet, running⟩ := h
  refine ⟨rx, depth, numbered, positioned, recovering, timed, quiet, fun up => ?_⟩
  obtain ⟨credit, seen, told, told', told''⟩ := running up
  refine ⟨credit, seen, ?_, ?_, ?_⟩
  · exact Bool.eq_false_iff.mpr fun h => nomatch told.symm.trans (fewer h)
  · exact Bool.eq_false_iff.mpr fun h => nomatch told'.symm.trans (fewer' h)
  · exact Bool.eq_false_iff.mpr fun h => nomatch told''.symm.trans (fewer'' h)

/-- Once they are settled, no failure report of the port is outstanding. -/
theorem settleFailure_told (p : Link) (s : State) :
    ((settleFailure p s).port p).failDispatcher = false ∧ ((settleFailure p s).port p).failEngine = false ∧
      ((settleFailure p s).port p).failNotices = false := by
  unfold settleFailure takeFailureAtNotices takeFailureAtEngine takeFailureAtDispatcher
  (repeat' split) <;> simp_all

theorem settleFailure_state (p : Link) (s : State) : ((settleFailure p s).port p).state = (s.port p).state := by
  unfold settleFailure takeFailureAtNotices takeFailureAtEngine takeFailureAtDispatcher
  (repeat' split) <;> simp

section
variable {s : State} (h : portsSound s)
include h

theorem portsSound.modPort (p : Link) {f : Port → Port} (sound : (f (s.port p)).Sound) : portsSound (s.modPort p f) :=
  fun q => by
    rw [State.port_modPort]
    split
    exacts [sound, h q]

theorem portsSound.same {t : State} (ports : t.ports = s.ports) : portsSound t := fun p => by
  simpa only [State.port, ports] using h p

theorem portsSound.setCoord (c : Coord) : portsSound (s.setCoord c) := h.same rfl

theorem portsSound.setMgmt (m : Mgmt) : portsSound (s.setMgmt m) := h.same rfl

theorem portsSound.modDisp (p : Link) (f : Dispatcher → Dispatcher) : portsSound (s.modDisp p f) := h.same rfl

/-! ### Messages taken and failure reports -/

/-- A message taken leaves room in the receive buffer. -/
theorem portsSound.takeHead (p : Link) : portsSound (s.modPort p Port.takeHead) := by
  obtain ⟨rx, depth, numbered, positioned, recovering, timed, quiet, running⟩ := h p
  refine h.modPort p ⟨?_, depth, numbered, positioned, recovering, timed, fun down => ?_, running⟩
  · exact (by simp [Port.takeHead] : _ ≤ (s.port p).rxBuffer.length).trans rx
  · obtain ⟨empty, rest⟩ := quiet down
    exact ⟨congrArg List.tail empty, rest⟩

theorem portsSound.takeHeadRequest (p : Link) : portsSound (takeHeadRequest p s) := by
  unfold Machine.takeHeadRequest
  (repeat' split) <;> first
    | exact h
    | exact (h.takeHead p).same rfl

theorem portsSound.takeFailureAtDispatcher (p : Link) : portsSound (takeFailureAtDispatcher p s) := by
  unfold Machine.takeFailureAtDispatcher
  split
  exacts [(h.modDisp p _).modPort p ((h p).reportsTaken (dispatcher := false) nofun id id), h]

theorem portsSound.takeFailureAtEngine (p : Link) : portsSound (takeFailureAtEngine p s) := by
  have told : Port.Sound { s.port p with failEngine := false, noticeAcks := [] } :=
    (h p).reportsTaken (engine := false) id nofun id
  unfold Machine.takeFailureAtEngine
  split
  · generalize orphanLink p s.coord = c
    exact (h.setCoord c).modPort p told
  · exact h

theorem portsSound.takeFailureAtNotices (p : Link) : portsSound (takeFailureAtNotices p s) := by
  unfold Machine.takeFailureAtNotices
  split
  exacts [(h.setCoord _).modPort p ((h p).reportsTaken (notices := false) id id nofun), h]

theorem portsSound.settleFailure (p : Link) : portsSound (settleFailure p s) :=
  ((h.takeFailureAtDispatcher p).takeFailureAtEngine p).takeFailureAtNotices p

theorem portsSound.receiveHello (p : Link) (hello : Hello) : portsSound (receiveHello p hello s) := by
  unfold Machine.receiveHello
  split
  case h_3 => exact h
  case h_2 up => exact h.modPort p ((h p).helloWhileUp up _ p hello)
  case h_1 greeting =>
    split
    case isFalse => exact h
    case isTrue valid =>
      obtain ⟨⟨_, _⟩, low, high⟩ : (hello.role = false ∧ hello.revision = 1) ∧
          1 ≤ hello.depth.toNat ∧ hello.depth.toNat ≤ 16 := by simpa [helloValid] using valid
      have settled := h.settleFailure p
      split
      · have still : ((Machine.settleFailure p s).port p).state = .greeting := by rwa [settleFailure_state]
        exact settled.modPort p ((settled p).comeUp still low high (settleFailure_told p s) _ p)
      · exact h.modPort p ((h p).helloSeen (by simp [greeting]) hello)

/-! ### Frames sent -/

theorem portsSound.handOver (p : Link) (k : SlotIx) (r : Reply) (up : (s.port p).state = .up)
    (may : (s.port p).mayNew = true) : portsSound (handOver p k r s) := by
  have sent : portsSound (s.modPort p (Port.sendNew (.reply r.code) r.message)) :=
    h.modPort p ((h p).sendNew up may _ _)
  unfold Machine.handOver
  simp only
  split
  exacts [(sent.modDisp p _).takeHeadRequest p, sent.modDisp p _]

theorem portsSound.perform (p : Link) (choice : Choice) (justified : choice.justified p s) :
    portsSound (perform p s choice) := by
  cases choice with
  | hello => exact h.modPort p ((h p).sendHello _)
  | rewind => exact h.modPort p ((h p).sendRewind justified p)
  | mark n => exact h.modPort p ((h p).sendMark justified n)
  | replay e => exact h.modPort p ((h p).sendReplay justified.1 justified.2)
  | reply k r => exact h.handOver p k r justified.1 justified.2.1
  | alert a => exact (h.setMgmt _).modPort p ((h p).sendNew justified.1 justified.2 _ _)
  | notice j g n =>
    have served : { s.port p with lastServed := j }.Sound := h p
    exact (h.setCoord _).modPort p (served.sendNew justified.1 justified.2 _ _)
  | idle => exact h.modPort p ((h p).launchWith _)
  | nothing => exact h

theorem portsSound.selectNext (p : Link) : portsSound (selectNext p s) :=
  portsSound.perform (h.modPort p (h p)) p _ (choose_justified p _)

/-! ### Timers -/

theorem portsSound.idleExpiry (p : Link) : portsSound (idleExpiry p s) := by
  unfold Machine.idleExpiry
  simp only
  split
  exacts [h.modPort p ((h p).launchWith _), h]

theorem portsSound.settlePort (p : Link) (params : s.mgmt.params.Sound) : portsSound (settlePort s p) := by
  refine portsSound.idleExpiry (h.modPort p ?_) p
  exact (((((h p).silenceExpiry _ p).rewindExpiry params p).greetingExpiry _ p).helloExpiry _).holdoffExpiry _ _ p

theorem portsSound.settlePorts (ps : List Link) (params : s.mgmt.params.Sound) :
    portsSound (ps.foldl Machine.settlePort s) := by
  induction ps generalizing s with
  | nil => exact h
  | cons p ps ih => exact ih (h.settlePort p params) (by rwa [settlePort_mgmt])

/-! ### Management requests -/

theorem portsSound.applyParam (id : Byte) (v : Nat) : portsSound (applyParam id v s) := by
  have ports (ls : List Link) (u : State) (hu : portsSound u) :
      portsSound (ls.foldl (fun s l => s.modPort l (Port.autoRestarted s.mgmt.params s.mgmt.epoch l)) u) := by
    induction ls generalizing u with
    | nil => exact hu
    | cons l ls ih => exact ih _ (hu.modPort l ((hu l).autoRestarted _ _ l))
  have set : portsSound (s.setMgmt { s.mgmt with params := s.mgmt.params.set id v }) := h.setMgmt _
  unfold Machine.applyParam
  simp only
  split
  exacts [ports _ _ set, set]

end

theorem mgmtRule_ports {req : Request} {body : MgmtBody} (rule : req.mgmtRule? = some body) (ctx : RequestContext)
    {s : State} (h : portsSound s) : portsSound (body ctx s).2 := by
  cases req <;> cases rule
  case paramGet id => unfold paramGetBody; split <;> exact h
  case paramSet id v => unfold paramSetBody; simp only; (repeat' split) <;> first | exact h | exact h.applyParam _ _
  case statsGet g clear => unfold statsGetBody; (repeat' split) <;> exact h
  case linkControl link command =>
    split
    · unfold linkStopBody
      simp only
      (repeat' split) <;> first | exact h | exact h.modPort _ ((h _).stop _)
    · unfold linkStartBody
      simp only
      (repeat' split) <;> first | exact h | exact h.modPort _ ((h _).start _)
  case deviceReset scope => unfold deviceResetBody; split; exacts [h, h.setMgmt _]
  case identify => exact h

theorem runMgmt_ports {r : Presented} {body : MgmtBody} {refused : State → ReplyBody} {s : State}
    (rule : r.request.mgmtRule? = some body) (h : portsSound s) : portsSound (runMgmt r body refused s) := by
  have served : portsSound (s.setMgmt { s.mgmt with lastServed := r.link }) := h.setMgmt _
  unfold runMgmt
  simp only
  split
  exacts [served.modDisp _ _, (mgmtRule_ports rule _ served).modDisp _ _]

/-! ### Resets and fine ticks -/

theorem performReset_ports (sc : Scope) (s : State) : portsSound (performReset sc s) := fun p => by
  have reset : (performReset sc s).port p = ((drainReports s).port p).deviceReset _ := tableMap_get _ _ _ _
  exact reset ▸ Port.deviceReset_sound _ _

theorem partReset_ports (cause : Cause) (s : State) : portsSound (partReset cause s) := fun p => by
  have reset : (partReset cause s).port p = (s.port p).afterReset 1 := tableMap_get _ _ _ _
  exact reset ▸ Port.afterReset_sound _ _

theorem performPending_ports {s : State} (h : portsSound s) : portsSound (performPending s) := by
  unfold performPending
  split
  exacts [performReset_ports _ s, h]

theorem graceExpiry_ports {s : State} (h : portsSound s) : portsSound (graceExpiry s) := by
  unfold graceExpiry
  split
  exacts [performPending_ports (h.setMgmt _), h]

theorem settleExpiries_ports {s : State} (h : portsSound s) (params : s.mgmt.params.Sound) :
    portsSound (settleExpiries s) := by
  unfold settleExpiries
  exact graceExpiry_ports (h.settlePorts _ params)

theorem deliverFineTick_ports (upsets : List Upset) {s : State} (h : portsSound s) (params : s.mgmt.params.Sound) :
    portsSound (deliverFineTick upsets s) := by
  have settled : portsSound (disturbAll upsets (settleExpiries s)) := (settleExpiries_ports h params).setCoord _
  unfold deliverFineTick
  simp only
  generalize disturbAll upsets (settleExpiries s) = u at settled
  split
  · exact settled
  · intro p
    have ticked : (advanceTick u).port p = (u.port p).fineTick u.mgmt.params := tableMap_get _ _ _ _
    exact ticked ▸ (settled p).fineTick _

theorem idleCycle_ports (s : State) (h : portsSound s) (params : s.mgmt.params.Sound) : portsSound (idleCycle s) := by
  unfold idleCycle
  split
  exacts [h.same rfl, deliverFineTick_ports [] h params]

/-! ### Every command -/

theorem takeReportFrom_ports (src : ReportSource) {s : State} (h : portsSound s) :
    portsSound (takeReportFrom src s) := by
  unfold takeReportFrom
  split
  · exact h
  · cases src with
    | port p => exact (h.setMgmt _).modPort p (h p)
    | dispatcher p => exact (h.setMgmt _).modDisp p _
    | engine => exact (h.setMgmt _).setCoord _
    | integrity => exact (h.setMgmt _).setCoord _

theorem exec_ports (c : Instr) (s t : State) (h : portsSound s) (params : s.mgmt.params.Sound)
    (runs : exec c s = .next t) : portsSound t := by
  by_cases engine : c.isEngineRow = true
  · rcases exec_engineRow c s engine with same | ⟨r, body, _, _, ran⟩
    · cases same.symm.trans runs; exact h
    · cases ran.symm.trans runs; exact h.same (by simp [runEngine_eq])
  by_cases mgmt : c.isMgmtRow = true
  · rcases exec_mgmtRow c s mgmt with same | ⟨r, body, refused, _, rule, ran⟩
    · cases same.symm.trans runs; exact h
    · cases ran.symm.trans runs; exact runMgmt_ports rule h
  cases c <;> first | exact absurd rfl engine | exact absurd rfl mgmt | skip
  case takeRequest p => cases runs; exact h.takeHeadRequest p
  case dropNonRequest p =>
    simp only [exec, execDropNonRequest] at runs
    (repeat' split at runs) <;> cases runs <;> first
      | exact h
      | exact (h.takeHead p).modDisp p _
  case slotFreeingReport r =>
    simp only [exec, execSlotFreeingReport] at runs
    split at runs <;> cases runs
    exacts [(h.setCoord _).modDisp r.port _, h]
  case orphanSessions p => cases runs; exact h.takeFailureAtEngine p
  case discardSlots p => cases runs; exact h.takeFailureAtDispatcher p
  case revertNotices p => cases runs; exact h.takeFailureAtNotices p
  case noticeAckReport p =>
    simp only [exec, execNoticeAckReport] at runs
    split at runs <;> cases runs
    exacts [h, (h.setCoord _).modPort p (h p)]
  case coarseTick first =>
    simp only [exec, execCoarseTick] at runs
    (repeat' split at runs) <;> cases runs
    · exact h
    all_goals exact h.same (by simp)
  case leaseExpiry j =>
    simp only [exec, execLeaseExpiry] at runs
    split at runs <;> cases runs
    exacts [h.setCoord _, h]
  case deadlineExpiry w =>
    simp only [exec, execDeadlineExpiry] at runs
    split at runs <;> cases runs
    exacts [h.setCoord _, h]
  case patrolFaultReport =>
    simp only [exec, execPatrolFaultReport] at runs
    split at runs <;> cases runs
    exacts [h, h.same rfl]
  case fineTick upsets => cases runs; exact deliverFineTick_ports upsets h params
  case greetingTimerExpiry p => cases runs; exact h.modPort p ((h p).greetingExpiry _ p)
  case helloTimerExpiry p => cases runs; exact h.modPort p ((h p).helloExpiry _)
  case holdoffTimerExpiry p => cases runs; exact h.modPort p ((h p).holdoffExpiry _ _ p)
  case idleTimerExpiry p => cases runs; exact h.idleExpiry p
  case silenceLimitReached p => cases runs; exact h.modPort p ((h p).silenceExpiry _ p)
  case rewindTimerExpiry p => cases runs; exact h.modPort p ((h p).rewindExpiry params p)
  case graceTimerExpiry => cases runs; exact graceExpiry_ports h
  case resetReplyAcked =>
    simp only [exec, execResetReplyAcked] at runs
    split at runs <;> cases runs
    exacts [performPending_ports (h.modPort _ (h _)), h]
  case laneReady p => cases runs; exact h.modPort p ((h p).laneBecomesReady _)
  case laneLost p => cases runs; exact h.modPort p ((h p).laneBecomesLost _ p)
  case receiveData p num ack limit msg =>
    cases runs
    refine h.modPort p ?_
    split
    exacts [(h p).receiveData _ _ _ _ _ _, (h p).rejectFrame _ _]
  case receiveIdle p ack limit => cases runs; exact h.modPort p ((h p).receiveIdle _ _ _ _)
  case receiveRewind p ack limit n => cases runs; exact h.modPort p ((h p).receiveRewind _ _ _ _ _)
  case receiveMark p ack limit n => cases runs; exact h.modPort p ((h p).receiveMark _ _ _ _ _)
  case receiveHello p hello => cases runs; exact h.receiveHello p hello
  case rejectedFrame p => cases runs; exact h.modPort p ((h p).rejectFrame _ _)
  case selectNextFrame p => cases runs; exact h.selectNext p
  case powerOn => cases runs; exact partReset_ports _ s
  case resetN => cases runs; exact partReset_ports _ s
  case managementReport src => cases runs; exact takeReportFrom_ports src h

/-- Settles O58: every event keeps its port sound, where the rewind limit in force is in its range; the parameters stay
in range with the management unit. -/
theorem portsStaySound : Obligations.PortsStaySound := fun _ _ params h stepped =>
  (step_keeps (P := fun s => s.mgmt.Sound ∧ portsSound s) (fun _ _ h => h)
    (fun s h => ⟨idleCycle_keepsMgmt s h.1, idleCycle_ports s h.2 h.1.1⟩)
    (fun c s t h runs => ⟨exec_keepsMgmt c s t h.1 runs, exec_ports c s t h.2 h.1.1 runs⟩) ⟨params, h⟩ stepped).2

end Sys2Proof.Machine
end

/-! The tables stay sound (R1, R2, R5, R17, R18, R46, R69, R82, R86, R105, R106), first part: what every operation on
the tables keeps, and every pass, withdrawal and teardown. -/

section
namespace Sys2Proof.Machine

/-- A notice queue without notices is sound. -/
theorem NoticeBox.empty_sound (view : Option NoticeView) : NoticeBox.Sound ⟨view, []⟩ := ⟨List.Pairwise.nil, nofun⟩

/-! ### Writing one entry -/

section
variable {c : Coord} (h : c.Sound)
include h

theorem Coord.Sound.setObj (i : ObjIx) {e : ObjEntry} (sound : e.Sound) : (c.setObj i e).Sound := by
  obtain ⟨objects, sessions, waits, boxes⟩ := h
  refine ⟨fun k => ?_, sessions, waits, boxes⟩
  rw [Coord.obj_setObj]
  split
  exacts [sound, objects k]

theorem Coord.Sound.setSess (j : SessIx) {e : SessEntry} (sound : e.Sound) : (c.setSess j e).Sound := by
  obtain ⟨objects, sessions, waits, boxes⟩ := h
  refine ⟨objects, fun k => ?_, waits, boxes⟩
  rw [Coord.sess_setSess]
  split
  exacts [sound, sessions k]

theorem Coord.Sound.setWait (w : WaitIx) {e : WaitEntry} (sound : e.gen ≠ 0) : (c.setWait w e).Sound := by
  obtain ⟨objects, sessions, waits, boxes⟩ := h
  refine ⟨objects, sessions, fun k => ?_, boxes⟩
  rw [Coord.wait_setWait]
  split
  exacts [sound, waits k]

theorem Coord.Sound.setBox (j : SessIx) {b : NoticeBox} (sound : b.Sound) : (c.setBox j b).Sound := by
  obtain ⟨objects, sessions, waits, boxes⟩ := h
  refine ⟨objects, sessions, waits, fun k => ?_⟩
  rw [Coord.box_setBox]
  split
  exacts [sound, boxes k]

theorem Coord.Sound.report (r : Report) : (c.report r).Sound := h

theorem Coord.Sound.obj (i : ObjIx) : (c.obj i).Sound := h.1 i

theorem Coord.Sound.sess (j : SessIx) : (c.sess j).Sound := h.2.1 j

theorem Coord.Sound.wait (w : WaitIx) : (c.wait w).gen ≠ 0 := h.2.2.1 w

theorem Coord.Sound.box (j : SessIx) : (c.box j).Sound := h.2.2.2 j

/-! ### Records read -/

theorem Coord.Sound.record {i : ObjIx} {r : ObjRecord} (found : c.record? i = some r) : r.Sound := (h.obj i).2 r found

theorem Coord.Sound.lock {i : ObjIx} {l : LockRecord} (found : c.lock? i = some l) : l.Sound := by
  unfold Coord.lock? at found
  split at found <;> cases found
  case h_1 name live => exact (h.record live).2.2

theorem Coord.Sound.counter {i : ObjIx} {k : CounterRecord} (found : c.counter? i = some k) : k.Sound := by
  unfold Coord.counter? at found
  split at found <;> cases found
  case h_1 name live => exact (h.record live).2.2

theorem Coord.Sound.current {j : SessIx} {b : SessCurrent} (found : (c.sess j).body = some b) : b.record.Sound :=
  (h.sess j).2 b found

theorem Coord.Sound.sessRecord {j : SessIx} {r : SessRecord} (found : c.sessRecord? j = some r) : r.Sound := by
  obtain ⟨b, current, rfl⟩ := Option.map_eq_some_iff.mp found
  exact h.current current

/-! ### Records written -/

theorem Coord.Sound.setObjBody (i : ObjIx) {b : ObjBody} (sound : ∀ r, b.record? = some r → r.Sound) :
    (c.setObjBody i b).Sound :=
  h.setObj i ⟨(h.obj i).1, sound⟩

theorem Coord.Sound.setLive (i : ObjIx) {r : ObjRecord} (sound : r.Sound) (condition : Health) :
    (c.setObjBody i (.live r condition)).Sound :=
  h.setObjBody i fun _ found => Option.some.inj found ▸ sound

theorem Coord.Sound.freeObj (i : ObjIx) : (c.freeObj i).Sound := h.setObj i ⟨advanceGen_ne_zero _, fun _ => nofun⟩

theorem Coord.Sound.setKind (i : ObjIx) {k : ObjKind} (sound : k.Sound) : (c.setKind i k).Sound := by
  unfold Coord.setKind
  split
  case h_1 r live =>
    obtain ⟨low, high, _⟩ := h.record live
    exact h.setLive i (r := { r with kind := k }) ⟨low, high, sound⟩ .clean
  case h_2 => exact h

theorem Coord.Sound.setLock (i : ObjIx) {l : LockRecord} (sound : l.Sound) : (c.setLock i l).Sound :=
  h.setKind i (k := .lock l) sound

theorem Coord.Sound.setCounter (i : ObjIx) {k : CounterRecord} (sound : k.Sound) : (c.setCounter i k).Sound :=
  h.setKind i (k := .counter k) sound

/-- A current session's entry is written with a sound record. -/
theorem Coord.Sound.setCurrent (j : SessIx) {b : SessCurrent} (sound : b.record.Sound) :
    (c.setSess j ⟨(c.sess j).gen, some b⟩).Sound :=
  h.setSess j ⟨(h.sess j).1, fun _ found => Option.some.inj found ▸ sound⟩

theorem Coord.Sound.freeSess (j : SessIx) {g : Byte} (sound : g ≠ 0) : (c.setSess j ⟨g, none⟩).Sound :=
  h.setSess j ⟨sound, fun _ => nofun⟩

theorem Coord.Sound.setSessRecord (j : SessIx) {r : SessRecord} (sound : r.Sound) : (c.setSessRecord j r).Sound := by
  unfold Coord.setSessRecord
  split
  exacts [h.setCurrent j sound, h]

theorem Coord.Sound.modSess (j : SessIx) {f : SessRecord → SessRecord} (sound : ∀ r, r.Sound → (f r).Sound) :
    (c.modSess j f).Sound := by
  unfold Coord.modSess
  split
  case h_1 r current => exact h.setSessRecord j (sound r (h.sessRecord current))
  case h_2 => exact h

theorem Coord.Sound.freeWait (w : WaitIx) : (c.freeWait w).Sound := h.setWait w (advanceGen_ne_zero _)

theorem Coord.Sound.dequeue (i : ObjIx) (id : Handle) : (c.dequeue i id).Sound := by
  unfold Coord.dequeue
  split
  case h_1 name l live =>
    have sound : l.Sound := (h.record live).2.2
    exact h.setLock i sound
  case h_2 name k live =>
    have sound : k.Sound := (h.record live).2.2
    exact h.setCounter i sound
  case h_3 => exact h

/-- A new notice is UNSENT behind the others, with the session's next serial, which stays in its range (R105). -/
theorem Coord.Sound.pushNotice (j : SessIx) (kind : NoticeKind) (object : Handle) (wait : Option (Handle × Tag))
    (held : Option SlotRef) : (c.pushNotice j kind object wait held).Sound := by
  unfold Coord.pushNotice
  split
  case h_1 => exact h
  case h_2 r current =>
    obtain ⟨_, _, _, _, low, high⟩ := h.sessRecord current
    obtain ⟨order, serials⟩ := h.box j
    refine Coord.Sound.modSess (h.setBox j ⟨?_, ?_⟩) j fun x ⟨p, p', lease, label, low', high'⟩ =>
      ⟨p, p', lease, label, advanceSerial_range _ high'⟩
    · exact List.pairwise_append.mpr ⟨order, List.pairwise_singleton _ _, by simp⟩
    · intro n queued
      rcases List.mem_append.mp queued with old | new
      · exact serials n old
      · rw [List.mem_singleton.mp new]
        exact ⟨low, high⟩

theorem Coord.Sound.pushWaitNotice (kind : NoticeKind) (id : Handle) (r : WaitRecord) :
    (c.pushWaitNotice kind id r).Sound := h.pushNotice _ _ _ _ _

theorem Coord.Sound.scan {α : Type} {xs : List α} {f : α → Coord → Coord}
    (keeps : ∀ x c, c.Sound → (f x c).Sound) : (Machine.scan xs f c).Sound := by
  unfold Machine.scan
  induction xs generalizing c with
  | nil => exact h
  | cons x xs ih => exact ih (keeps x c h)

end

/-- A walk that carries the tables along keeps them sound if each of its steps does. -/
theorem foldl_keepsTables {α β : Type} (f : α × Coord → β → α × Coord)
    (keeps : ∀ acc x, acc.2.Sound → (f acc x).2.Sound) (xs : List β) (acc : α × Coord) (h : acc.2.Sound) :
    (xs.foldl f acc).2.Sound := by
  induction xs generalizing acc with
  | nil => exact h
  | cons x xs ih => exact ih _ (keeps acc x h)

theorem SessRecord.Sound.lowerCount {r : SessRecord} (h : r.Sound) (k : WaitKind) : (r.lowerCount k).Sound := by
  unfold SessRecord.lowerCount
  split <;> exact h

theorem SessRecord.Sound.raiseCount {r : SessRecord} (h : r.Sound) (k : WaitKind) : (r.raiseCount k).Sound := by
  unfold SessRecord.raiseCount
  split <;> exact h

/-! ### Holders -/

/-- A holder that leaves keeps the mode in agreement: a lock left without holders is FREE (R18). -/
theorem LockRecord.Sound.removeHolder {l : LockRecord} (h : l.Sound) (j : SessIx) : (l.removeHolder j).Sound := by
  obtain ⟨low, high, mode⟩ := h
  refine ⟨low, high, ?_⟩
  have fewer : (l.holders.erase j).length ≤ l.holders.length := List.length_erase_le
  show match (if l.holders.erase j = [] then LockMode.free else l.mode) with
    | .free => l.holders.erase j = []
    | .exclusive => (l.holders.erase j).length = 1
    | .shared => 1 ≤ (l.holders.erase j).length ∧ (l.holders.erase j).length ≤ l.capacity
  by_cases left : l.holders.erase j = []
  · rw [if_pos left]
    exact left
  · rw [if_neg left]
    have some : 1 ≤ (l.holders.erase j).length := List.length_pos_iff.mpr left
    cases held : l.mode <;> rw [held] at mode
    · rw [mode]; rfl
    · show _ = 1; omega
    · show _ ∧ _; omega

theorem LockRecord.Sound.abandonHolder {l : LockRecord} (h : l.Sound) (j : SessIx) : (l.abandonHolder j).Sound :=
  h.removeHolder j

/-- A holder that joins in a mode the lock grants keeps the mode in agreement (R18, R29). -/
theorem LockRecord.Sound.addHolder {l : LockRecord} (h : l.Sound) (j : SessIx) {k : WaitKind}
    (grantable : l.grantable k = true) : (l.addHolder j k.lockMode).Sound := by
  obtain ⟨low, high, mode⟩ := h
  refine ⟨low, high, ?_⟩
  have length : (l.holders ++ [j]).length = l.holders.length + 1 := by simp
  cases k with
  | exclusive =>
    have free : l.mode = .free := by simpa [LockRecord.grantable] using grantable
    rw [free] at mode
    show (l.holders ++ [j]).length = 1
    rw [mode]
    rfl
  | shared =>
    have room : l.holders.length + 1 ≤ l.capacity := by
      have room : l.mode = .free ∨ l.mode = .shared ∧ l.holders.length < l.capacity := by
        simpa [LockRecord.grantable, LockRecord.sharedRoom] using grantable
      rcases room with free | ⟨_, fewer⟩
      · rw [free] at mode
        rw [mode]
        exact low
      · exact fewer
    show 1 ≤ (l.holders ++ [j]).length ∧ (l.holders ++ [j]).length ≤ l.capacity
    omega
  | atLeast _ _ => simp [LockRecord.grantable] at grantable

/-! ### Checked reads -/

/-- A handling of uncorrectable records that keeps the tables sound. -/
def keepsTables (H : Handler) : Prop := ∀ d c, c.Sound → (H d c).Sound

section
variable {H : Handler} (handles : keepsTables H) {c : Coord} (h : c.Sound)
include handles h

theorem Coord.Sound.readObj {i : ObjIx} {read : Option ObjRecord} {u : Coord}
    (reads : Machine.readObj H i c = (read, u)) : u.Sound ∧ ∀ r, read = some r → r.Sound := by
  have live (r : ObjRecord) (condition : Health) (body : (c.obj i).body = .live r condition) : r.Sound :=
    (h.obj i).2 r (by rw [body]; rfl)
  unfold Machine.readObj at reads
  split at reads <;> cases reads
  case h_1 r body => exact ⟨h, fun _ same => Option.some.inj same ▸ live _ _ body⟩
  case h_2 r body => exact ⟨h.setLive i (live _ _ body) .clean, fun _ same => Option.some.inj same ▸ live _ _ body⟩
  case h_3 => exact ⟨handles _ c h, nofun⟩
  case h_4 => exact ⟨h, nofun⟩

theorem Coord.Sound.readSess {j : SessIx} {read : Option SessRecord} {u : Coord}
    (reads : Machine.readSess H j c = (read, u)) : u.Sound ∧ ∀ r, read = some r → r.Sound := by
  unfold Machine.readSess at reads
  split at reads
  case h_2 => cases reads; exact ⟨h, nofun⟩
  case h_1 b body =>
    have sound := h.current body
    split at reads <;> cases reads
    · exact ⟨h, fun _ same => Option.some.inj same ▸ sound⟩
    · exact ⟨Coord.Sound.setCurrent h j (b := { b with health := .clean }) sound,
        fun _ same => Option.some.inj same ▸ sound⟩
    · exact ⟨handles _ c h, nofun⟩

theorem Coord.Sound.readLock {i : ObjIx} {name : List Byte} {l : LockRecord} {u : Coord}
    (reads : Machine.readObj H i c = (some ⟨name, .lock l⟩, u)) : u.Sound ∧ l.Sound :=
  have ⟨sound, record⟩ := h.readObj handles reads
  ⟨sound, (record _ rfl).2.2⟩

theorem Coord.Sound.readCounter {i : ObjIx} {name : List Byte} {k : CounterRecord} {u : Coord}
    (reads : Machine.readObj H i c = (some ⟨name, .counter k⟩, u)) : u.Sound ∧ k.Sound :=
  have ⟨sound, record⟩ := h.readObj handles reads
  ⟨sound, (record _ rfl).2.2⟩

/-! ### Passes -/

omit handles in
theorem Coord.Sound.grantOne (i : ObjIx) {l : LockRecord} (lock : l.Sound) (w : WaitIx) (id : Handle) (r : WaitRecord)
    (grantable : l.grantable r.kind = true) : (Machine.grantOne i l w id r c).Sound := by
  have granted : { l.addHolder r.owner r.kind.lockMode with queue := l.queue.tail }.Sound :=
    lock.addHolder r.owner grantable
  have joined := (h.setLock i granted).modSess r.owner
    (f := fun s => { s.lowerCount r.kind with holds := s.holds ++ [r.object] }) fun _ sound => sound.lowerCount r.kind
  exact (joined.pushWaitNotice (.granted l.abandoned) id r).freeWait w

theorem Coord.Sound.grantLoop (bar : Option SessIx) (i : ObjIx) (n : Nat) :
    (Machine.grantLoop H bar i n c).2.Sound := by
  induction n generalizing c with
  | zero => exact h
  | succ n ih =>
    unfold Machine.grantLoop
    split
    · exact h
    · next l found =>
      split
      · exact h
      · split
        · exact h
        · next w r _ =>
          split
          · next may =>
            split
            · next reads => exact ih (h.readSess handles reads).1
            · next reads =>
              exact ih ((h.readSess handles reads).1.grantOne i (h.lock found) w _ r may.2)
          · exact h

theorem Coord.Sound.grantPass (bar : Option SessIx) (i : ObjIx) : (Machine.grantPass H bar i c).2.Sound := by
  unfold Machine.grantPass
  split
  exacts [h.grantLoop handles bar i _, h]

omit handles in
theorem Coord.Sound.releaseOne (i : ObjIx) {k : CounterRecord} (counter : k.Sound) (w : WaitIx) (id : Handle)
    (r : WaitRecord) (threshold : Nat) (take : Bool) : (Machine.releaseOne i k w id r threshold take c).Sound := by
  obtain ⟨ceiling, value⟩ := counter
  have left : (if take then k.value - threshold else k.value) ≤ k.ceiling := by split <;> omega
  unfold Machine.releaseOne
  simp only
  generalize (if take then k.value - threshold else k.value) = v at left
  have lowered : CounterRecord.Sound { k with waiters := k.waiters.erase id, value := v } := ⟨ceiling, left⟩
  have ended := (h.setCounter i lowered).modSess r.owner (f := fun s => s.lowerCount r.kind)
    fun _ sound => sound.lowerCount r.kind
  exact (ended.pushWaitNotice (.reached v) id r).freeWait w

omit h in
theorem releaseStep_keepsTables (i : ObjIx) (acc : Nat × Coord) (id : Handle) (h : acc.2.Sound) :
    (releaseStep H i acc id).2.Sound := by
  unfold releaseStep
  split
  · next k w r counter _ =>
    split
    · split
      · split
        · next reads => exact (h.readSess handles reads).1
        · next reads => exact (h.readSess handles reads).1.releaseOne i (h.counter counter) _ _ _ _ _
      · exact h
    · exact h
  · exact h

theorem Coord.Sound.releasePass (i : ObjIx) : (Machine.releasePass H i c).2.Sound := by
  unfold Machine.releasePass
  split
  exacts [foldl_keepsTables _ (releaseStep_keepsTables handles i) _ _ h, h]

theorem Coord.Sound.objectPass (i : ObjIx) : (Machine.objectPass H i c).Sound := by
  unfold Machine.objectPass
  split
  · next reads => exact (h.readObj handles reads).1.grantPass handles none i
  · next reads => exact (h.readObj handles reads).1.releasePass handles i
  · next reads => exact (h.readObj handles reads).1

/-! ### Withdrawals and revocations -/

omit h in
theorem withdrawOne_keepsTables (why : RemovalReason) (w : WaitIx) (acc : Nat × Coord) (h : acc.2.Sound) :
    (withdrawOne H why w acc).2.Sound := by
  unfold withdrawOne
  split
  · exact h
  · next r _ =>
    split
    · next reads => exact (h.readSess handles reads).1
    · next u reads =>
      have told := (h.readSess handles reads).1.pushWaitNotice (.withdrawn why) (waitHandle w (u.wait w).gen) r
      have ended := told.modSess r.owner (f := fun s => s.lowerCount r.kind) fun _ sound => sound.lowerCount r.kind
      exact (ended.dequeue r.object.objIx _).freeWait w

omit handles in
theorem Coord.Sound.dropHolder (i : ObjIx) (j : SessIx) : (Machine.dropHolder i j c).Sound := by
  unfold Machine.dropHolder
  split
  · next l found => exact h.setLock i ((h.lock found).removeHolder j)
  · exact h

omit h in
theorem revokeOne_keepsTables (why : RemovalReason) (o : Handle) (j : SessIx) (acc : Nat × Coord) (h : acc.2.Sound) :
    (revokeOne H why o j acc).2.Sound := by
  unfold revokeOne
  split
  · next reads => exact (h.readSess handles reads).1
  · next reads =>
    have read := (h.readSess handles reads).1
    split
    · have dropped := read.modSess j (f := fun s => { s with holds := s.holds.erase o }) fun _ sound => sound
      exact (dropped.pushNotice j (.revoked why) o none none).dropHolder o.objIx j
    · exact read

/-! ### Uncorrectable records -/

theorem Coord.Sound.faultObject (i : ObjIx) : (Machine.faultObject H i c).Sound := by
  unfold Machine.faultObject
  refine Coord.Sound.scan (Coord.Sound.scan ((h.setObjBody i (b := .faulted) fun _ => nofun).report _)
    fun w c hc => ?_) fun j c hc => revokeOne_keepsTables handles _ _ j (0, c) hc
  split
  exacts [withdrawOne_keepsTables handles _ w (0, c) hc, hc]

omit h in
theorem teardownHolding_keepsTables (P : PassRule) (j : SessIx) (i : ObjIx) (c : Coord) (h : c.Sound) :
    (teardownHolding H P j i c).Sound := by
  unfold teardownHolding
  split
  · next l u reads =>
    obtain ⟨read, lock⟩ := h.readLock handles reads
    split
    · have left := read.setLock i (lock.abandonHolder j)
      simp only
      split
      exacts [left.grantPass handles P.bar i, left]
    · exact read
  · next read u _ reads => exact (h.readObj handles reads).1

omit h in
theorem teardownWait_keepsTables (P : PassRule) (j : SessIx) (w : WaitIx) (c : Coord) (h : c.Sound) :
    (teardownWait H P j w c).Sound := by
  unfold teardownWait
  split
  · exact h
  · next r _ =>
    split
    · have freed := (((h.readObj handles (i := r.object.objIx) rfl).1.dequeue r.object.objIx
        (waitHandle w (c.wait w).gen)).freeWait w)
      simp only
      split
      exacts [freed.grantPass handles P.bar _, freed]
    · exact h

theorem Coord.Sound.faultSession (P : PassRule) (j : SessIx) : (Machine.faultSession H P j c).Sound := by
  unfold Machine.faultSession
  have freed := (h.freeSess j (h.sess j).1).report (.sessionFaulted (Machine.sessHandle j (c.sess j).gen))
  have torn := Coord.Sound.scan (Coord.Sound.scan freed (xs := indices 256) (teardownHolding_keepsTables handles P j))
    (xs := indices 128) (teardownWait_keepsTables handles P j)
  exact (torn.setBox j (NoticeBox.empty_sound none)).freeSess j (advanceGen_ne_zero _)

end

/-- The handling of uncorrectable records keeps the tables sound, however deep its chain. -/
theorem faultHandler_keepsTables (P : PassRule) (n : Nat) : keepsTables (faultHandler P n) := by
  induction n with
  | zero => exact fun _ _ h => h
  | succ n ih =>
    intro d c h
    cases d with
    | obj i => exact h.faultObject ih i
    | sess j => exact h.faultSession ih P j

theorem handler_keepsTables : keepsTables handler := faultHandler_keepsTables _ _

theorem deferredHandler_keepsTables : keepsTables deferredHandler := faultHandler_keepsTables _ _

theorem handlerSkipping_keepsTables (i : ObjIx) : keepsTables (handlerSkipping i) := faultHandler_keepsTables _ _

theorem handlerClosing_keepsTables (j : SessIx) : keepsTables (handlerClosing j) := faultHandler_keepsTables _ _

/-! ### The end of a session -/

section
variable {H : Handler} (handles : keepsTables H)
include handles

theorem releaseHold_keepsTables (abandon pass : Bool) (j : SessIx) (acc : Nat × Coord) (o : Handle)
    (h : acc.2.Sound) : (releaseHold H abandon pass j acc o).2.Sound := by
  unfold releaseHold
  split
  · next l u reads =>
    obtain ⟨read, lock⟩ := h.readLock handles reads
    have left : (if abandon then l.abandonHolder j else l.removeHolder j).Sound := by
      split
      exacts [lock.abandonHolder j, lock.removeHolder j]
    have dropped := (read.setLock o.objIx left).modSess j
      (f := fun s => { s with holds := s.holds.erase o }) fun _ sound => sound
    simp only
    split
    exacts [dropped.grantPass handles (some j) _, dropped]
  · next read u _ reads => exact (h.readObj handles reads).1

theorem removeOwnWait_keepsTables (lockWait pass : Bool) (j : SessIx) (acc : Nat × Coord) (w : WaitIx)
    (h : acc.2.Sound) : (removeOwnWait H lockWait pass j acc w).2.Sound := by
  unfold removeOwnWait
  split
  · exact h
  · next r _ =>
    simp only
    split
    · split
      · next reads => exact (h.readObj handles reads).1
      · next u reads =>
        have removed := (((h.readObj handles reads).1.dequeue r.object.objIx (waitHandle w (u.wait w).gen)).modSess j
          (f := fun s => s.lowerCount r.kind) fun _ sound => sound.lowerCount r.kind).freeWait w
        simp only
        split
        exacts [removed.grantPass handles (some j) _, removed]
    · exact h

theorem Coord.Sound.endSession {c : Coord} (h : c.Sound) (abandon pass : Bool) (j : SessIx) :
    (Machine.endSession H abandon pass j c).2.Sound := by
  unfold Machine.endSession
  simp only
  refine Coord.Sound.freeSess (Coord.Sound.setBox ?_ j (NoticeBox.empty_sound none)) j (advanceGen_ne_zero _)
  refine foldl_keepsTables _ (removeOwnWait_keepsTables handles false pass j) _ _ ?_
  dsimp only
  refine foldl_keepsTables _ (removeOwnWait_keepsTables handles true pass j) _ _ ?_
  dsimp only
  exact foldl_keepsTables _ (releaseHold_keepsTables handles abandon pass j) _ _ h

end

end Sys2Proof.Machine
end

/-! The tables stay sound, second part: what every request, every tick and every reset keeps, and from that the
statement O56. -/

section
namespace Sys2Proof.Machine

/-! ### Names and records resolved -/

section
variable {c : Coord} (h : c.Sound)
include h

theorem Coord.Sound.resolveRecord {o : Handle} {out : Except Status ObjRecord} {u : Coord}
    (resolves : Machine.resolveRecord o c = (out, u)) : u.Sound ∧ ∀ r, out = .ok r → r.Sound := by
  unfold Machine.resolveRecord at resolves
  split at resolves
  · cases resolves; exact ⟨h, nofun⟩
  · cases resolves; exact ⟨h, nofun⟩
  · split at resolves <;> cases resolves
    · next r reads =>
      obtain ⟨read, record⟩ := h.readObj handler_keepsTables reads
      exact ⟨read, fun x same => record x (congrArg some (Except.ok.inj same))⟩
    · next reads => exact ⟨(h.readObj handler_keepsTables reads).1, nofun⟩

theorem Coord.Sound.resolveLock {o : Handle} {out : Except Status LockRecord} {u : Coord}
    (resolves : Machine.resolveLock o c = (out, u)) : u.Sound ∧ ∀ l, out = .ok l → l.Sound := by
  unfold Machine.resolveLock at resolves
  split at resolves
  · next record => cases resolves; exact ⟨(h.resolveRecord record).1, nofun⟩
  · next r _ record =>
    obtain ⟨read, sound⟩ := h.resolveRecord record
    obtain ⟨_, _, kind⟩ := sound r rfl
    split at resolves <;> cases resolves
    · next l isLock => exact ⟨read, fun x same => by rw [isLock] at kind; exact Except.ok.inj same ▸ kind⟩
    · exact ⟨read, nofun⟩

theorem Coord.Sound.resolveCounter {o : Handle} {out : Except Status CounterRecord} {u : Coord}
    (resolves : Machine.resolveCounter o c = (out, u)) : u.Sound ∧ ∀ k, out = .ok k → k.Sound := by
  unfold Machine.resolveCounter at resolves
  split at resolves
  · next record => cases resolves; exact ⟨(h.resolveRecord record).1, nofun⟩
  · next r _ record =>
    obtain ⟨read, sound⟩ := h.resolveRecord record
    obtain ⟨_, _, kind⟩ := sound r rfl
    split at resolves <;> cases resolves
    · next k isCounter => exact ⟨read, fun x same => by rw [isCounter] at kind; exact Except.ok.inj same ▸ kind⟩
    · exact ⟨read, nofun⟩

theorem Coord.Sound.nameLookup (name : List Byte) : (Machine.nameLookup name c).2.Sound := by
  refine foldl_keepsTables _ (fun acc i h => ?_) _ _ h
  unfold lookupStep
  split
  · next reads => exact (h.readObj handler_keepsTables reads).1
  · next reads => exact (h.readObj handler_keepsTables reads).1

end

/-! ### Session requests -/

/-- A rule of a session request that keeps the tables sound. -/
def ruleKeepsTables (body : SessIx → RequestContext → Coord → ReplyBody × Coord) : Prop :=
  ∀ j ctx c, c.Sound → (body j ctx c).2.Sound

/-- The session check writes nothing, and the renewal puts the remaining lease to its period (R85). -/
theorem sessionRequest_keepsTables (resume : Bool) {body : SessIx → RequestContext → Coord → ReplyBody × Coord}
    (rule : ruleKeepsTables body) (ctx : RequestContext) {c : Coord} (h : c.Sound) :
    (sessionRequest resume body ctx c).2.Sound := by
  have renewal (j : SessIx) (r? : Option SessRecord) (u : Coord) (renews : renewLease j c = (r?, u)) : u.Sound := by
    unfold renewLease at renews
    split at renews <;> cases renews
    · next reads => exact (h.readSess handler_keepsTables reads).1
    · next r _ reads =>
      obtain ⟨read, record⟩ := h.readSess handler_keepsTables reads
      obtain ⟨low, high, _, label⟩ := record r rfl
      exact read.setSessRecord j (r := { r with remaining := r.period }) ⟨low, high, Nat.le_refl _, label⟩
  unfold sessionRequest
  split
  · exact h
  · split
    · next renews => exact renewal _ _ _ renews
    · next renews => exact rule _ ctx _ (renewal _ _ _ renews)

/-- A rule that reads its session's record alone and changes nothing. -/
theorem renewBody_keepsTables : ruleKeepsTables renewBody := fun j ctx c h => by
  unfold renewBody
  split <;> exact h

theorem resumeBody_keepsTables : ruleKeepsTables resumeBody := fun j ctx c h => by
  have rebound : (rebind j ctx.link c).Sound := by
    unfold rebind
    split
    · exact h
    · next b current =>
      have sound : b.record.Sound := h.current current
      exact (h.setCurrent j (b := { b with orphaned := false, bound := ctx.link }) sound).setBox j (h.box j)
  unfold resumeBody
  simp only
  split <;> exact rebound

theorem closeBody_keepsTables : ruleKeepsTables closeBody := fun j _ c h => by
  have ended := h.endSession (handlerClosing_keepsTables j) false true j
  unfold closeBody
  generalize endSession (handlerClosing j) false true j c = out at ended
  exact ended

theorem sessWalkStep_keepsTables (start limit : Nat) (a : SessWalk) (j : SessIx) (h : a.tables.Sound) :
    (sessWalkStep start limit a j).tables.Sound := by
  unfold sessWalkStep
  split
  · exact h
  · split
    · exact h
    · split
      · split
        · next reads => exact (h.readSess handler_keepsTables reads).1
        · next reads => exact (h.readSess handler_keepsTables reads).1
      · exact h

theorem listSessionsBody_keepsTables (start : Byte) (want : Option Bool) :
    ruleKeepsTables (listSessionsBody start want) := fun j ctx c h => by
  have walk (limit : Nat) (js : List SessIx) (a : SessWalk) (ha : a.tables.Sound) :
      (js.foldl (sessWalkStep start.toNat limit) a).tables.Sound := by
    induction js generalizing a with
    | nil => exact ha
    | cons j js ih => exact ih _ (sessWalkStep_keepsTables _ _ a j ha)
  exact walk _ _ _ h

/-! ### Object requests -/

/-- What passes the field checks of CREATE makes a sound record (R6, R8). -/
theorem newRecord_sound {kind : Byte} {name : List Byte} {rank cap : Option Byte} {ceil init : Option Nat}
    (passes : createChecks kind name rank cap ceil init = none) :
    (newRecord kind name rank cap ceil init).Sound := by
  have allowed : createAllowed kind name rank cap ceil init := by
    by_contra refused
    exact nomatch passes.symm.trans (createChecks_refuses kind name rank cap ceil init refused)
  obtain ⟨low, high, fields⟩ := allowed
  refine ⟨low, high, ?_⟩
  rcases fields with ⟨rfl, _, _, capacity⟩ | ⟨rfl, _, _, ceiling, value⟩
  · have range : 1 ≤ (cap.map (·.toNat)).getD 8 ∧ (cap.map (·.toNat)).getD 8 ≤ 8 := by
      cases cap with
      | none => decide
      | some n => exact capacity n rfl
    exact ⟨range.1, range.2, rfl⟩
  · exact ⟨ceiling, value⟩

theorem createBody_keepsTables (kind : Byte) (name : List Byte) (oie : Bool) (rank cap : Option Byte)
    (ceil init : Option Nat) : ruleKeepsTables (createBody kind name oie rank cap ceil init) := fun j ctx c h => by
  have looked := h.nameLookup name
  unfold createBody
  split
  · exact h
  · next passes =>
    split
    · next found => rw [found] at looked; exact looked
    · next found =>
      rw [found] at looked
      split
      exacts [looked, looked.setLive _ (newRecord_sound passes) .clean]

theorem findBody_keepsTables (name : List Byte) : ruleKeepsTables (findBody name) := fun j ctx c h => by
  have looked := h.nameLookup name
  unfold findBody
  split
  · exact h
  · split
    · next found => rw [found] at looked; exact looked
    · next found => rw [found] at looked; exact looked

theorem withdrawNamed_keepsTables {H : Handler} (handles : keepsTables H) (acc : Nat × Coord) (id : Handle)
    (h : acc.2.Sound) : (withdrawNamed H acc id).2.Sound := by
  unfold withdrawNamed
  split
  exacts [withdrawOne_keepsTables handles .deleted _ acc h, h]

theorem Coord.Sound.forceDelete {c : Coord} (h : c.Sound) (i : ObjIx) (k : ObjKind) :
    (Machine.forceDelete i k c).2.2.Sound := by
  have handles := handlerSkipping_keepsTables i
  refine Coord.Sound.freeObj ?_ i
  refine foldl_keepsTables _ (fun acc j => revokeOne_keepsTables handles .deleted _ j acc) _ _ ?_
  exact foldl_keepsTables _ (withdrawNamed_keepsTables handles) _ _ h

theorem deleteBody_keepsTables (o : Handle) (force : Bool) : ruleKeepsTables (deleteBody o force) := fun j ctx c h => by
  unfold deleteBody
  simp only
  split
  · exact h
  · exact (h.freeObj o.objIx).report _
  · split
    · next reads => exact (h.readObj handler_keepsTables reads).1
    · next reads =>
      have read := (h.readObj handler_keepsTables reads).1
      split
      · exact read.forceDelete _ _
      · split
        exacts [read, read.freeObj _]

theorem describeBody_keepsTables (o : Handle) : ruleKeepsTables (describeBody o) := fun j ctx c h => by
  unfold describeBody
  split
  · next resolves => exact (h.resolveRecord resolves).1
  · next resolves => exact (h.resolveRecord resolves).1

theorem objWalkStep_keepsTables (start : Nat) (a : ObjWalk) (i : ObjIx) (h : a.tables.Sound) :
    (objWalkStep start a i).tables.Sound := by
  unfold objWalkStep
  split
  · exact h
  · split
    · split
      · next reads => exact (h.readObj handler_keepsTables reads).1
      · next reads => exact (h.readObj handler_keepsTables reads).1
    · exact h

theorem listObjectsBody_keepsTables (start : Byte) : ruleKeepsTables (listObjectsBody start) := fun j ctx c h => by
  have walk (is : List ObjIx) (a : ObjWalk) (ha : a.tables.Sound) :
      (is.foldl (objWalkStep start.toNat) a).tables.Sound := by
    induction is generalizing a with
    | nil => exact ha
    | cons i is ih => exact ih _ (objWalkStep_keepsTables _ a i ha)
  exact walk _ _ h

/-! ### Lock requests -/

theorem Coord.Sound.placeWait {c : Coord} (h : c.Sound) (w : WaitIx) (r : WaitRecord) :
    (Machine.placeWait w r c).Sound :=
  (h.setWait w (e := { c.wait w with body := some r }) (h.wait w)).modSess r.owner
    (f := fun s => s.raiseCount r.kind) fun _ sound => sound.raiseCount r.kind

theorem Coord.Sound.acquireOutcome {c : Coord} (h : c.Sound) {l : LockRecord} (lock : l.Sound) (o : Handle)
    (k : WaitKind) (try_ : Bool) (deadline : Option Nat) (j : SessIx) (ctx : RequestContext) :
    (Machine.acquireOutcome o l k try_ deadline j ctx c).2.Sound := by
  unfold Machine.acquireOutcome
  simp only
  split
  · next granted =>
    have grantable : l.grantable k = true := (Bool.and_eq_true_iff.mp granted).2
    split
    · exact h
    · exact (h.setLock _ (lock.addHolder j grantable)).modSess j
        (f := fun s => { s with holds := s.holds ++ [o] }) fun _ sound => sound
  · split
    · exact h
    · split
      · exact h
      · split
        · exact h
        · next w _ =>
          have queued : LockRecord.Sound { l with queue := l.queue ++ [waitHandle w (c.wait w).gen] } := lock
          exact (h.placeWait w _).setLock _ queued

/-- The ranks are read through the integrity unit, and nothing is written but what that corrects (R24). -/
theorem Coord.Sound.orderCheck {c : Coord} (h : c.Sound) (j : SessIx) (r : SessRecord) (rank : Byte) :
    (Machine.orderCheck j r rank c).2.Sound := by
  unfold Machine.orderCheck
  split
  · refine foldl_keepsTables _ (fun acc o h => ?_) _ _ h
    unfold rankStep
    split
    · next reads => exact (h.readObj handler_keepsTables reads).1
    · next reads => exact (h.readObj handler_keepsTables reads).1
  · exact h

theorem acquireBody_keepsTables (o : Handle) (mode : Byte) (try_ : Bool) (deadline : Option Nat) :
    ruleKeepsTables (acquireBody o mode try_ deadline) := fun j ctx c h => by
  unfold acquireBody
  split
  · next resolves => exact (h.resolveLock resolves).1
  · next l u resolves =>
    have read := (h.resolveLock resolves).1
    split
    case h_2 => exact read
    case h_1 k r _ _ =>
      have checked := read.orderCheck j r l.rank
      iterate 4
        split
        · exact read
      split
      · next checks => rw [checks] at checked; exact checked
      · next checks =>
        rw [checks] at checked
        split
        · next found => exact checked.acquireOutcome (checked.lock found) o k try_ deadline j ctx
        · exact checked

theorem releaseBody_keepsTables (o : Handle) (repaired : Bool) : ruleKeepsTables (releaseBody o repaired) :=
  fun j ctx c h => by
  unfold releaseBody
  split
  · next resolves => exact (h.resolveLock resolves).1
  · next l u resolves =>
    obtain ⟨read, lock⟩ := h.resolveLock resolves
    split
    · have left : LockRecord.Sound { l.removeHolder j with abandoned := (l.removeHolder j).abandoned && !repaired } :=
        (lock l rfl).removeHolder j
      have dropped := (read.setLock o.objIx left).modSess j
        (f := fun s => { s with holds := s.holds.erase o }) fun _ sound => sound
      exact dropped.grantPass handler_keepsTables none o.objIx
    · exact read

theorem cancelBody_keepsTables (id : Handle) : ruleKeepsTables (cancelBody id) := fun j ctx c h => by
  unfold cancelBody
  split
  · exact h
  · next w r _ =>
    split
    · exact h
    · simp only
      split
      · next reads => exact (h.readObj handler_keepsTables reads).1
      · next u reads =>
        have ended := (((h.readObj handler_keepsTables reads).1.dequeue r.object.objIx id).modSess j
          (f := fun s => s.lowerCount r.kind) fun _ sound => sound.lowerCount r.kind).freeWait w
        split
        exacts [ended.grantPass handler_keepsTables none _, ended]

/-! ### Counter requests -/

/-- A new value within the ceiling is stored, and the release pass lowers it at most (R48, R59). -/
theorem Coord.Sound.storeValue {c : Coord} (h : c.Sound) {k : CounterRecord} (counter : k.Sound) (i : ObjIx) {v : Nat}
    (within : v ≤ k.ceiling) : (Machine.storeValue i k v c).2.Sound := by
  have stored : (if v = k.value then c else c.setCounter i { k with value := v }).Sound := by
    split
    exacts [h, h.setCounter i ⟨counter.1, within⟩]
  unfold Machine.storeValue
  simp only
  split
  exacts [stored.releasePass handler_keepsTables i, stored]

/-- The common frame of the arithmetic requests keeps the tables sound where the request's own rule does. -/
theorem countBody_keepsTables (o : Handle) (own : CounterRecord → Coord → ReplyBody × Coord)
    (keeps : ∀ k c, k.Sound → c.Sound → (own k c).2.Sound) : ruleKeepsTables (countBody o own) := fun j ctx c h => by
  unfold countBody
  split
  · next resolves => exact (h.resolveCounter resolves).1
  · next k u resolves =>
    obtain ⟨read, counter⟩ := h.resolveCounter resolves
    exact keeps k u (counter k rfl) read

theorem countSetOwn_keepsTables (i : ObjIx) (v : Nat) (k : CounterRecord) (c : Coord) (counter : k.Sound)
    (h : c.Sound) : (countSetOwn i v k c).2.Sound := by
  unfold countSetOwn
  split
  · exact h
  · exact h.storeValue counter i (by omega)

theorem countAddOwn_keepsTables (i : ObjIx) (d : Int) (k : CounterRecord) (c : Coord) (counter : k.Sound)
    (h : c.Sound) : (countAddOwn i d k c).2.Sound := by
  unfold countAddOwn
  simp only
  split
  · exact h
  · exact h.storeValue counter i (by omega)

theorem countSwapOwn_keepsTables (i : ObjIx) (e v : Nat) (k : CounterRecord) (c : Coord) (counter : k.Sound)
    (h : c.Sound) : (countSwapOwn i e v k c).2.Sound := by
  unfold countSwapOwn
  split
  · exact h
  · split
    · exact h.storeValue counter i (by omega)
    · exact h

theorem countRaiseOwn_keepsTables (i : ObjIx) (v : Nat) (k : CounterRecord) (c : Coord) (counter : k.Sound)
    (h : c.Sound) : (countRaiseOwn i v k c).2.Sound := by
  have value := counter.2
  unfold countRaiseOwn
  split
  · exact h
  · exact h.storeValue counter i (by omega)

theorem countLowerOwn_keepsTables (i : ObjIx) (v : Nat) (k : CounterRecord) (c : Coord) (counter : k.Sound)
    (h : c.Sound) : (countLowerOwn i v k c).2.Sound := by
  have value := counter.2
  exact h.storeValue counter i (by omega)

theorem awaitBody_keepsTables (o : Handle) (threshold : Nat) (take try_ : Bool) (deadline : Option Nat) :
    ruleKeepsTables (awaitBody o threshold take try_ deadline) := fun j ctx c h => by
  unfold awaitBody
  split
  · next resolves => exact (h.resolveCounter resolves).1
  · next k u resolves =>
    obtain ⟨read, counter⟩ := h.resolveCounter resolves
    obtain ⟨ceiling, value⟩ := counter k rfl
    have taken : CounterRecord.Sound { k with value := k.value - threshold } :=
      ⟨ceiling, (Nat.sub_le _ _).trans value⟩
    unfold awaitOwn
    simp only
    repeat' (split <;> first | exact read | exact read.setCounter o.objIx taken | skip)
    next w _ =>
    have queued : CounterRecord.Sound { k with waiters := k.waiters ++ [waitHandle w (u.wait w).gen] } :=
      ⟨ceiling, value⟩
    exact (read.placeWait w _).setCounter o.objIx queued

/-! ### OPEN -/

/-- OPEN takes a lease in range, or the default lease, and a label of at most 12 bytes (R88, R89). -/
theorem Coord.Sound.openBody {c : Coord} (h : c.Sound) (lease : Option Nat) (ordered : Option Bool)
    (label : Option (List Byte)) (ctx : RequestContext) (default : 50 ≤ ctx.defaultLease ∧ ctx.defaultLease ≤ 60000) :
    (Machine.openBody lease ordered label ctx c).2.Sound := by
  unfold Machine.openBody
  simp only
  split
  · exact h
  · next inRange =>
    split
    · exact h
    · next short =>
      split
      · exact h
      · next j _ =>
        have period : 50 ≤ lease.getD ctx.defaultLease ∧ lease.getD ctx.defaultLease ≤ 60000 := by
          cases lease with
          | none => exact default
          | some n => simpa [Nat.not_lt] using inRange
        have text : (label.getD []).length ≤ 12 := by
          cases label with
          | none => exact Nat.zero_le _
          | some t => simpa using short
        have opened : (openRecord (lease.getD ctx.defaultLease) (ordered.getD false) (label.getD [])).Sound :=
          ⟨period.1, period.2, Nat.le_refl _, text, Nat.le_refl _,
            (by decide : 1 ≤ Config.maxU32)⟩
        exact (h.setCurrent j (b := ⟨false, ctx.link, _, .clean⟩) opened).setBox j (NoticeBox.empty_sound _)

/-- A rule of the engine keeps the tables sound, where the default lease is in its range. -/
theorem engineRule_keepsTables {req : Request} {body : EngineBody} (rule : req.engineRule? = some body)
    (ctx : RequestContext) (default : 50 ≤ ctx.defaultLease ∧ ctx.defaultLease ≤ 60000) {c : Coord} (h : c.Sound) :
    (body ctx c).2.Sound := by
  cases req <;> cases rule
  case openSession lease ordered label => exact h.openBody lease ordered label ctx default
  case resume => exact sessionRequest_keepsTables _ resumeBody_keepsTables ctx h
  case renew => exact sessionRequest_keepsTables _ renewBody_keepsTables ctx h
  case close => exact sessionRequest_keepsTables _ closeBody_keepsTables ctx h
  case create => exact sessionRequest_keepsTables _ (createBody_keepsTables _ _ _ _ _ _ _) ctx h
  case find => exact sessionRequest_keepsTables _ (findBody_keepsTables _) ctx h
  case delete => exact sessionRequest_keepsTables _ (deleteBody_keepsTables _ _) ctx h
  case describe => exact sessionRequest_keepsTables _ (describeBody_keepsTables _) ctx h
  case listObjects => exact sessionRequest_keepsTables _ (listObjectsBody_keepsTables _) ctx h
  case acquire => exact sessionRequest_keepsTables _ (acquireBody_keepsTables _ _ _ _) ctx h
  case release => exact sessionRequest_keepsTables _ (releaseBody_keepsTables _ _) ctx h
  case cancel => exact sessionRequest_keepsTables _ (cancelBody_keepsTables _) ctx h
  case countRead => exact sessionRequest_keepsTables _ (countBody_keepsTables _ _ fun _ _ _ h => h) ctx h
  case countSet => exact sessionRequest_keepsTables _ (countBody_keepsTables _ _ (countSetOwn_keepsTables _ _)) ctx h
  case countAdd => exact sessionRequest_keepsTables _ (countBody_keepsTables _ _ (countAddOwn_keepsTables _ _)) ctx h
  case countSwap =>
    exact sessionRequest_keepsTables _ (countBody_keepsTables _ _ (countSwapOwn_keepsTables _ _ _)) ctx h
  case countRaise =>
    exact sessionRequest_keepsTables _ (countBody_keepsTables _ _ (countRaiseOwn_keepsTables _ _)) ctx h
  case countLower =>
    exact sessionRequest_keepsTables _ (countBody_keepsTables _ _ (countLowerOwn_keepsTables _ _)) ctx h
  case await => exact sessionRequest_keepsTables _ (awaitBody_keepsTables _ _ _ _ _) ctx h
  case listSessions => exact sessionRequest_keepsTables _ (listSessionsBody_keepsTables _ _) ctx h

end Sys2Proof.Machine
end

/-! The tables stay sound, third part: the notice unit, time, the patrol and the resets, and from that the statement
O56. -/

section
namespace Sys2Proof.Machine

/-! ### Notice queues -/

/-- A queue whose notices stay as they were, but for holds and details that soundness does not speak of. -/
theorem NoticeBox.Sound.map {b : NoticeBox} (h : b.Sound) (f : Notice → Notice)
    (sent : ∀ n, (f n).sent = n.sent) (serial : ∀ n, (f n).serial = n.serial) :
    NoticeBox.Sound { b with queue := b.queue.map f } := by
  obtain ⟨order, serials⟩ := h
  refine ⟨?_, fun n queued => ?_⟩
  · exact List.pairwise_map.mpr (order.imp fun later => by rwa [sent, sent])
  · obtain ⟨m, old, rfl⟩ := List.mem_map.mp queued
    rw [serial]
    exact serials m old

/-- With no notice SENT any order of serials is sound. -/
theorem NoticeBox.Sound.revert {b : NoticeBox} (h : b.Sound) : b.revert.Sound := by
  refine ⟨?_, fun n queued => ?_⟩
  · exact List.pairwise_map.mpr (h.1.imp fun _ sent => nomatch sent)
  · obtain ⟨m, old, rfl⟩ := List.mem_map.mp queued
    exact h.2 m old

theorem NoticeBox.Sound.orphan {b : NoticeBox} (h : b.Sound) : b.orphan.Sound := h.revert

theorem NoticeBox.Sound.failed {b : NoticeBox} (h : b.Sound) (p : Link) : (b.failed p).Sound := by
  unfold NoticeBox.failed
  split
  · split
    exacts [h.orphan, h]
  · exact h

theorem NoticeBox.Sound.acked {b : NoticeBox} (h : b.Sound) (serial : Nat) : (b.acked serial).Sound :=
  ⟨h.1.sublist List.eraseP_sublist, fun n queued => h.2 n (List.mem_of_mem_eraseP queued)⟩

/-- The notice sent is the oldest UNSENT one, so that the run of SENT notices grows by it (R106, R111). -/
theorem markOldest_sound {queue : List Notice}
    (order : queue.Pairwise fun older newer => newer.sent = true → older.sent = true) :
    (markOldest queue).Pairwise fun older newer => newer.sent = true → older.sent = true := by
  induction queue with
  | nil => exact List.Pairwise.nil
  | cons n rest ih =>
    obtain ⟨first, later⟩ := List.pairwise_cons.mp order
    unfold markOldest
    split
    · next sent => exact List.pairwise_cons.mpr ⟨fun _ _ _ => sent, ih later⟩
    · exact List.pairwise_cons.mpr ⟨fun _ _ _ => rfl, later⟩

theorem mem_markOldest {queue : List Notice} {n : Notice} (h : n ∈ markOldest queue) :
    ∃ m ∈ queue, m.serial = n.serial := by
  induction queue with
  | nil => nomatch h
  | cons x rest ih =>
    unfold markOldest at h
    split at h
    · rcases List.mem_cons.mp h with rfl | h
      · exact ⟨n, List.mem_cons_self, rfl⟩
      · obtain ⟨m, old, same⟩ := ih h
        exact ⟨m, List.mem_cons_of_mem _ old, same⟩
    · rcases List.mem_cons.mp h with rfl | h
      · exact ⟨x, List.mem_cons_self, rfl⟩
      · exact ⟨n, List.mem_cons_of_mem _ h, rfl⟩

theorem NoticeBox.Sound.mark {b : NoticeBox} (h : b.Sound) :
    NoticeBox.Sound { b with queue := markOldest b.queue } := by
  refine ⟨markOldest_sound h.1, fun n queued => ?_⟩
  obtain ⟨m, old, same⟩ := mem_markOldest queued
  exact same ▸ h.2 m old

/-! ### Reports taken by the engine and the notice unit -/

section
variable {c : Coord} (h : c.Sound)
include h

theorem Coord.Sound.slotFreed (r : SlotRef) : (Machine.slotFreed r c).Sound := by
  obtain ⟨objects, sessions, waits, boxes⟩ := h
  refine ⟨objects, sessions, fun w => ?_, fun j => ?_⟩
  · have entry : (Machine.slotFreed r c).wait w = (c.wait w).clearRef r := tableMap_get _ _ _ _
    exact entry ▸ waits w
  · have entry : (Machine.slotFreed r c).box j =
        { c.box j with queue := (c.box j).queue.map (Notice.liftHold r) } := tableMap_get _ _ _ _
    rw [entry]
    exact (boxes j).map _ (fun n => by unfold Notice.liftHold; split <;> rfl)
      (fun n => by unfold Notice.liftHold; split <;> rfl)

theorem Coord.Sound.noticeAcked (o : Handle) (serial : Nat) : (Machine.noticeAcked o serial c).Sound := by
  unfold Machine.noticeAcked
  split
  · exact h
  · split
    · split
      exacts [h.setBox _ ((h.box _).acked serial), h]
    · exact h

theorem Coord.Sound.failedBoxes (p : Link) : Coord.Sound { c with boxes := tableMap (NoticeBox.failed p) c.boxes } := by
  obtain ⟨objects, sessions, waits, boxes⟩ := h
  refine ⟨objects, sessions, waits, fun j => ?_⟩
  have entry : Coord.box { c with boxes := tableMap (NoticeBox.failed p) c.boxes } j = (c.box j).failed p :=
    tableMap_get _ _ _ _
  exact entry ▸ (boxes j).failed p

omit h in
theorem orphanOne_keepsTables (p : Link) (j : SessIx) (c : Coord) (h : c.Sound) : (orphanOne p j c).Sound := by
  unfold orphanOne
  split
  · next b current =>
    have sound : b.record.Sound := h.current current
    split
    · exact (h.setCurrent j (b := { b with orphaned := true }) sound).setBox j (h.box j).orphan
    · exact h
  · exact h

theorem Coord.Sound.orphanLink (p : Link) : (Machine.orphanLink p c).Sound := h.scan (orphanOne_keepsTables p)

/-! ### Time -/

omit h in
theorem countLease_keepsTables (j : SessIx) (c : Coord) (h : c.Sound) : (countLease deferredHandler j c).Sound := by
  unfold countLease
  split
  · next r u reads =>
    obtain ⟨read, record⟩ := h.readSess deferredHandler_keepsTables reads
    obtain ⟨low, high, lease, rest⟩ := record r rfl
    exact read.setSessRecord j (r := { r with remaining := r.remaining - 1 })
      ⟨low, high, (Nat.sub_le _ _).trans lease, rest⟩
  · next reads => exact (h.readSess deferredHandler_keepsTables reads).1

omit h in
theorem countDeadline_keepsTables (w : WaitIx) (c : Coord) (h : c.Sound) : (countDeadline w c).Sound := by
  unfold countDeadline
  split
  exacts [h.setWait w (h.wait w), h]

omit h in
theorem expireIfOut_keepsTables (j : SessIx) (c : Coord) (h : c.Sound) : (expireIfOut deferredHandler j c).Sound := by
  unfold expireIfOut
  split
  · split
    · next u reads =>
      have ended := (h.readSess deferredHandler_keepsTables reads).1.endSession deferredHandler_keepsTables true false j
      unfold expireSession
      generalize endSession deferredHandler true false j u = out at ended
      exact ended
    · next reads => exact (h.readSess deferredHandler_keepsTables reads).1
  · exact h

omit h in
theorem expireWaitIfOut_keepsTables (w : WaitIx) (c : Coord) (h : c.Sound) :
    (expireWaitIfOut deferredHandler w c).Sound := by
  unfold expireWaitIfOut expireWait
  split
  · split
    · exact h
    · next r _ =>
      simp only
      split
      · next reads => exact (h.readObj deferredHandler_keepsTables reads).1
      · next reads =>
        have read := (h.readObj deferredHandler_keepsTables reads).1
        split
        · next reads => exact (read.readSess deferredHandler_keepsTables reads).1
        · next u reads =>
          have ended := ((read.readSess deferredHandler_keepsTables reads).1.dequeue r.object.objIx
            (waitHandle w (u.wait w).gen)).modSess r.owner (f := fun s => s.lowerCount r.kind)
            fun _ sound => sound.lowerCount r.kind
          exact (ended.pushWaitNotice .timedOut _ r).freeWait w
  · exact h

theorem Coord.Sound.tickPasses (start mid : Coord) : (Machine.tickPasses start mid c).Sound := by
  refine h.scan fun i c hc => ?_
  split
  exacts [hc.objectPass handler_keepsTables i, hc]

theorem Coord.Sound.engineTick : (Machine.engineTick c).Sound := by
  have counted : (tickCountdown c).Sound := Coord.Sound.scan (h.scan countLease_keepsTables) countDeadline_keepsTables
  have expired : (tickExpiries (tickCountdown c)).Sound :=
    Coord.Sound.scan (counted.scan expireIfOut_keepsTables) expireWaitIfOut_keepsTables
  exact expired.tickPasses c _

/-! ### The patrol and the disturbances -/

theorem Coord.Sound.actOnReport (r : PatrolReport) : (Machine.actOnReport r c).Sound := by
  unfold Machine.actOnReport
  split
  · split
    · split
      exacts [handler_keepsTables _ c h, h]
    · exact h
  · split
    · split
      exacts [handler_keepsTables _ c h, h]
    · exact h

theorem Coord.Sound.disturb (u : Upset) : (Machine.disturb c u).Sound := by
  unfold Machine.disturb
  split
  · next object =>
    simp only
    split
    · next r _ live => exact h.setLive _ ((h.obj ⟨u.position.val, object⟩).2 r (by rw [live]; rfl)) u.health
    · exact h
  · simp only
    split
    · next b current =>
      have sound : b.record.Sound := h.current current
      exact h.setCurrent _ (b := { b with health := u.health }) sound
    · exact h

theorem Coord.Sound.disturbed (upsets : List Upset) : (upsets.foldl Machine.disturb c).Sound := by
  induction upsets generalizing c with
  | nil => exact h
  | cons u us ih => exact ih (h.disturb u)

/-! ### Resets -/

theorem Coord.Sound.clearSessions : c.clearSessions.Sound := by
  obtain ⟨objects, sessions, waits, _⟩ := h
  refine ⟨objects, fun j => ?_, fun w => ?_, fun j => ?_⟩
  · have entry : c.clearSessions.sess j = (c.sess j).reset := tableMap_get _ _ _ _
    rw [entry]
    unfold SessEntry.reset
    split
    exacts [⟨advanceGen_ne_zero _, fun _ => nofun⟩, sessions j]
  · have entry : c.clearSessions.wait w = (c.wait w).reset := tableMap_get _ _ _ _
    rw [entry]
    unfold WaitEntry.reset
    split
    exacts [advanceGen_ne_zero _, waits w]
  · have entry : c.clearSessions.box j = ⟨none, []⟩ := Vector.getElem_replicate _
    exact entry ▸ NoticeBox.empty_sound none

omit h in
theorem resetObject_keepsTables (i : ObjIx) (c : Coord) (h : c.Sound) : (resetObject i c).Sound := by
  unfold resetObject
  split
  · next reads =>
    obtain ⟨read, low, high, _⟩ := h.readLock handler_keepsTables reads
    exact read.setLock i ⟨low, high, rfl⟩
  · next reads =>
    obtain ⟨read, counter⟩ := h.readCounter handler_keepsTables reads
    exact read.setCounter i counter
  · next reads => exact (h.readObj handler_keepsTables reads).1

theorem Coord.Sound.deviceReset (sc : Scope) : (Coord.deviceReset sc c).Sound := by
  have cleared := h.clearSessions
  cases sc with
  | sessions => exact cleared.scan resetObject_keepsTables
  | all =>
    obtain ⟨_, sessions, waits, boxes⟩ := cleared
    refine ⟨fun i => ?_, sessions, waits, boxes⟩
    have entry : (Coord.deviceReset .all c).obj i = (c.obj i).resetAll := tableMap_get _ _ _ _
    exact entry ▸ ⟨advanceGen_ne_zero _, fun _ => nofun⟩

end

theorem Coord.initial_sound : Coord.initial.Sound := by
  refine ⟨fun i => ?_, fun j => ?_, fun w => ?_, fun j => ?_⟩
  · have entry : Coord.initial.obj i = ⟨1, .free⟩ := Vector.getElem_replicate _
    exact entry ▸ ⟨by decide, fun _ => nofun⟩
  · have entry : Coord.initial.sess j = ⟨1, none⟩ := Vector.getElem_replicate _
    exact entry ▸ ⟨by decide, fun _ => nofun⟩
  · have entry : Coord.initial.wait w = ⟨1, none⟩ := Vector.getElem_replicate _
    rw [entry]
    decide
  · have entry : Coord.initial.box j = ⟨none, []⟩ := Vector.getElem_replicate _
    exact entry ▸ NoticeBox.empty_sound none

/-! ### What leaves the tables alone, and what takes reports to them -/

@[simp] theorem takeHeadRequest_coord (p : Link) (s : State) : (takeHeadRequest p s).coord = s.coord := by
  unfold takeHeadRequest
  (repeat' split) <;> rfl

@[simp] theorem takeFailureAtDispatcher_coord (p : Link) (s : State) :
    (takeFailureAtDispatcher p s).coord = s.coord := by
  unfold takeFailureAtDispatcher
  split <;> rfl

@[simp] theorem idleExpiry_coord (p : Link) (s : State) : (idleExpiry p s).coord = s.coord := by
  unfold idleExpiry
  simp only
  split <;> rfl

@[simp] theorem settlePort_coord (s : State) (p : Link) : (settlePort s p).coord = s.coord := by simp [settlePort]

theorem foldl_settlePort_coord (ps : List Link) (s : State) : (ps.foldl settlePort s).coord = s.coord := by
  induction ps generalizing s with
  | nil => rfl
  | cons p ps ih => rw [List.foldl_cons, ih, settlePort_coord]

theorem applyParam_coord (id : Byte) (v : Nat) (s : State) : (applyParam id v s).coord = s.coord := by
  have ports (ls : List Link) (u : State) :
      (ls.foldl (fun s l => s.modPort l (Port.autoRestarted s.mgmt.params s.mgmt.epoch l)) u).coord = u.coord := by
    induction ls generalizing u with
    | nil => rfl
    | cons l ls ih => rw [List.foldl_cons, ih, State.modPort_coord]
  unfold applyParam
  simp only
  split
  · rw [ports]; rfl
  · rfl

/-- The management unit's requests leave the engine's tables alone. -/
theorem mgmtRule_coord {req : Request} {body : MgmtBody} (rule : req.mgmtRule? = some body) (ctx : RequestContext)
    (s : State) : (body ctx s).2.coord = s.coord := by
  cases req <;> cases rule
  case paramGet id => unfold paramGetBody; split <;> rfl
  case paramSet id v => unfold paramSetBody; simp only; (repeat' split) <;> first | rfl | exact applyParam_coord _ _ _
  case statsGet g clear => unfold statsGetBody; (repeat' split) <;> rfl
  case linkControl link command =>
    split
    · unfold linkStopBody; simp only; (repeat' split) <;> rfl
    · unfold linkStartBody; simp only; (repeat' split) <;> rfl
  case deviceReset scope => unfold deviceResetBody; split <;> rfl
  case identify => rfl

theorem runMgmt_coord {r : Presented} {body : MgmtBody} {refused : State → ReplyBody}
    (rule : r.request.mgmtRule? = some body) (s : State) : (runMgmt r body refused s).coord = s.coord := by
  unfold runMgmt
  simp only
  split
  · rfl
  · exact mgmtRule_coord rule _ _

theorem takeFailureAtEngine_keepsTables (p : Link) (s : State) (h : s.coord.Sound) :
    (takeFailureAtEngine p s).coord.Sound := by
  unfold takeFailureAtEngine
  split
  · rw [State.modPort_coord, State.setCoord_coord]
    exact h.orphanLink p
  · exact h

theorem takeFailureAtNotices_keepsTables (p : Link) (s : State) (h : s.coord.Sound) :
    (takeFailureAtNotices p s).coord.Sound := by
  unfold takeFailureAtNotices
  split
  exacts [h.failedBoxes p, h]

theorem settleFailure_keepsTables (p : Link) (s : State) (h : s.coord.Sound) : (settleFailure p s).coord.Sound := by
  have first : (takeFailureAtDispatcher p s).coord.Sound := by rwa [takeFailureAtDispatcher_coord]
  exact takeFailureAtNotices_keepsTables p _ (takeFailureAtEngine_keepsTables p _ first)

theorem receiveHello_keepsTables (p : Link) (hello : Hello) (s : State) (h : s.coord.Sound) :
    (receiveHello p hello s).coord.Sound := by
  unfold receiveHello
  (repeat' split) <;> first
    | exact h
    | exact settleFailure_keepsTables p s h

theorem selectNext_keepsTables (p : Link) (s : State) (h : s.coord.Sound) : (selectNext p s).coord.Sound := by
  have perform_keeps (choice : Choice) (u : State) (h : u.coord.Sound) : (perform p u choice).coord.Sound := by
    cases choice
    case notice j g n => exact h.setBox j (h.box j).mark
    case reply k r =>
      show (handOver p k r u).coord.Sound
      unfold handOver
      simp only
      split
      · rw [takeHeadRequest_coord]; exact h
      · exact h
    all_goals exact h
  exact perform_keeps _ _ h

/-- The management unit takes reports from the tables, and leaves the tables themselves alone. -/
theorem setReports_keepsTables (s : State) (rs : List Report) (src : ReportSource) (h : s.coord.Sound) :
    (s.setReports rs src).coord.Sound := by
  cases src <;> exact h

theorem drainReports_keepsTables (s : State) (h : s.coord.Sound) : (drainReports s).coord.Sound := by
  unfold drainReports
  generalize reportSources = srcs
  induction srcs generalizing s with
  | nil => exact h
  | cons src srcs ih => exact ih _ (setReports_keepsTables _ _ _ h)

theorem takeReportFrom_keepsTables (src : ReportSource) (s : State) (h : s.coord.Sound) :
    (takeReportFrom src s).coord.Sound := by
  unfold takeReportFrom
  split
  exacts [h, setReports_keepsTables _ _ _ h]

theorem performPending_keepsTables (s : State) (h : s.coord.Sound) : (performPending s).coord.Sound := by
  unfold performPending
  split
  exacts [(drainReports_keepsTables s h).deviceReset _, h]

theorem graceExpiry_keepsTables (s : State) (h : s.coord.Sound) : (graceExpiry s).coord.Sound := by
  unfold graceExpiry
  split
  exacts [performPending_keepsTables _ h, h]

theorem deliverFineTick_keepsTables (upsets : List Upset) (s : State) (h : s.coord.Sound) :
    (deliverFineTick upsets s).coord.Sound := by
  have settled : (settleExpiries s).coord.Sound := by
    unfold settleExpiries
    exact graceExpiry_keepsTables _ (by rwa [foldl_settlePort_coord])
  have disturbed : (disturbAll upsets (settleExpiries s)).coord.Sound := settled.disturbed upsets
  unfold deliverFineTick
  simp only
  generalize disturbAll upsets (settleExpiries s) = u at disturbed
  split <;> exact disturbed

theorem idleCycle_keepsTables (s : State) (h : s.coord.Sound) : (idleCycle s).coord.Sound := by
  unfold idleCycle
  split
  exacts [h, deliverFineTick_keepsTables [] s h]

theorem patrolStep_keepsTables (s : State) (h : s.coord.Sound) : (patrolStep s).coord.Sound := by
  have passes : keepsTables fun _ c => c := fun _ _ h => h
  unfold patrolStep
  split
  · simp only
    split
    · exact (h.readObj passes rfl).1
    · exact (h.readSess passes rfl).1
  · exact h

/-! ### Every command -/

theorem exec_keepsTables (c : Instr) (s t : State) (h : s.coord.Sound) (params : s.mgmt.params.Sound)
    (runs : exec c s = .next t) : t.coord.Sound := by
  by_cases engine : c.isEngineRow = true
  · rcases exec_engineRow c s engine with same | ⟨r, body, _, rule, ran⟩
    · cases same.symm.trans runs; exact h
    · cases ran.symm.trans runs; exact engineRule_keepsTables rule (requestContext r s) params.2.1 h
  by_cases mgmt : c.isMgmtRow = true
  · rcases exec_mgmtRow c s mgmt with same | ⟨r, body, refused, _, rule, ran⟩
    · cases same.symm.trans runs; exact h
    · cases ran.symm.trans runs; rwa [runMgmt_coord rule]
  cases c <;> first | exact absurd rfl engine | exact absurd rfl mgmt | skip
  case takeRequest p => cases runs; rwa [takeHeadRequest_coord]
  case dropNonRequest p =>
    simp only [exec, execDropNonRequest] at runs
    (repeat' split at runs) <;> cases runs <;> exact h
  case slotFreeingReport r =>
    simp only [exec, execSlotFreeingReport] at runs
    split at runs <;> cases runs
    exacts [h.slotFreed r, h]
  case orphanSessions p => cases runs; exact takeFailureAtEngine_keepsTables p s h
  case discardSlots p => cases runs; rwa [takeFailureAtDispatcher_coord]
  case revertNotices p => cases runs; exact takeFailureAtNotices_keepsTables p s h
  case noticeAckReport p =>
    simp only [exec, execNoticeAckReport] at runs
    split at runs <;> cases runs
    exacts [h, h.noticeAcked _ _]
  case coarseTick first =>
    have ticked (u : State) (hu : u.coord.Sound) : (u.setCoord (engineTick u.coord)).coord.Sound := by
      rw [State.setCoord_coord]
      exact hu.engineTick
    simp only [exec, execCoarseTick] at runs
    (repeat' split at runs) <;> cases runs
    · exact h
    · exact ticked _ (patrolStep_keepsTables _ h)
    · exact patrolStep_keepsTables _ (ticked _ h)
  case leaseExpiry j =>
    simp only [exec, execLeaseExpiry] at runs
    split at runs <;> cases runs
    · rw [State.setCoord_coord]
      exact (expireIfOut_keepsTables j _ h).tickPasses _ _
    · exact h
  case deadlineExpiry w =>
    simp only [exec, execDeadlineExpiry] at runs
    split at runs <;> cases runs
    · rw [State.setCoord_coord]
      exact (expireWaitIfOut_keepsTables w _ h).tickPasses _ _
    · exact h
  case patrolFaultReport =>
    simp only [exec, execPatrolFaultReport] at runs
    split at runs <;> cases runs
    exacts [h, h.actOnReport _]
  case fineTick upsets => cases runs; exact deliverFineTick_keepsTables upsets s h
  case idleTimerExpiry p => cases runs; rwa [idleExpiry_coord]
  case graceTimerExpiry => cases runs; exact graceExpiry_keepsTables s h
  case resetReplyAcked =>
    simp only [exec, execResetReplyAcked] at runs
    split at runs <;> cases runs
    exacts [performPending_keepsTables _ h, h]
  case receiveHello p hello => cases runs; exact receiveHello_keepsTables p hello s h
  case selectNextFrame p => cases runs; exact selectNext_keepsTables p s h
  case powerOn => cases runs; exact Coord.initial_sound
  case resetN => cases runs; exact Coord.initial_sound
  case managementReport src => cases runs; exact takeReportFrom_keepsTables src s h
  all_goals cases runs; exact h

/-- Settles O56: every write of an entry is sound where what it writes is, the holders, values, leases and serials that
the rules write stay in their ranges, and so every command and every tick keeps the tables sound. -/
theorem tablesStaySound : Obligations.TablesStaySound := fun _ _ h params stepped =>
  (step_keeps (P := fun s => s.mgmt.Sound ∧ s.coord.Sound) (fun _ _ h => h)
    (fun s h => ⟨idleCycle_keepsMgmt s h.1, idleCycle_keepsTables s h.2⟩)
    (fun c s t h runs => ⟨exec_keepsMgmt c s t h.1 runs, exec_keepsTables c s t h.2 h.1.1 runs⟩)
    ⟨params, h⟩ stepped).2

end Sys2Proof.Machine
end

/-! The requests that look up, list and describe (R5 to R10, R13, R14, R100, R101): what the walks over the tables
find, and from that the statements O5 to O8, O10 and O11. -/

section
namespace Sys2Proof.Machine

/-! ### The tables after the renewal -/

/-- A session that is served is current, with the record served. -/
theorem sessionServed.current {s : State} {r : Presented} {j : SessIx} {x : SessRecord}
    (served : sessionServed s r j x) : ∃ b, (s.coord.sess j).body = some b ∧ b.record = x ∧ b.health = .clean := by
  obtain ⟨_, b, current, record, clean⟩ := served
  exact ⟨b, current, record, clean⟩

/-- The renewal leaves every object where it was. -/
theorem Coord.record?_setSessRecord (c : Coord) (j : SessIx) (x : SessRecord) (i : ObjIx) :
    (c.setSessRecord j x).record? i = c.record? i := by
  simp [Coord.record?]

/-- A request that answers `reply` and adds nothing to the renewal. -/
theorem renewal_only {s : State} {r : Presented} {j : SessIx} {x : SessRecord} {c : Instr} {out : ReplyBody × Coord}
    {reply : ReplyBody} (runs : exec c s = .next (engineAfter r out s))
    (answer : out = (reply, s.coord.setSessRecord j x.renewed)) :
    ∃ t, exec c s = .next t ∧ engineFrame r s t ∧ answered r reply t ∧ onlySession j x.renewed s t := by
  subst answer
  exact ⟨_, runs, engineAfter_frame _ _ _, engineAfter_answered _ _ _, onlySession_of_setSessRecord rfl⟩

/-- A request that answers `reply` and writes, beside the renewal, the body of object entry `i` alone. -/
theorem renewal_and_object {s : State} {r : Presented} {j : SessIx} {x : SessRecord} {c : Instr}
    {out : ReplyBody × Coord} {reply : ReplyBody} {i : ObjIx} {b : ObjBody}
    (runs : exec c s = .next (engineAfter r out s))
    (answer : out = (reply, (s.coord.setSessRecord j x).setObj i ⟨(s.coord.obj i).gen, b⟩)) :
    ∃ t, exec c s = .next t ∧ engineFrame r s t ∧ answered r reply t ∧ onlyObject i b j x s t := by
  subst answer
  refine ⟨_, runs, engineAfter_frame _ _ _, engineAfter_answered _ _ _, by simp, fun k other => ?_, ?_,
    fun k other => ?_, by simp, ?_⟩
  · simp [Ne.symm other]
  · simp [sessionNow, Coord.setSessRecord_sess]
  · simp [Coord.setSessRecord_sess, Ne.symm other]
  · simp [noticesKept]

/-! ### The name lookup -/

/-- Object `i` is LIVE under the name. -/
def Coord.named (c : Coord) (name : List Byte) (i : ObjIx) : Bool := (c.record? i).any fun o => o.name == name

/-- What the name lookup answers of a match: its entry and its kind. -/
def Coord.kindAt (c : Coord) (i : ObjIx) : ObjIx × KindField := (i, ((c.record? i).map (·.kind.field)).getD .unknown)

/-- With no wrong bit in any record a checked read changes nothing. -/
theorem readObj_ofClean {c : Coord} (clean : ∀ i o h, (c.obj i).body = .live o h → h = .clean) (H : Handler)
    (i : ObjIx) : readObj H i c = (c.record? i, c) := by
  unfold readObj Coord.record?
  cases body : (c.obj i).body with
  | free => rfl
  | faulted => rfl
  | live o h => rw [clean i o h body]; rfl

theorem lookupStep_ofClean {c : Coord} (clean : ∀ i o h, (c.obj i).body = .live o h → h = .clean) (name : List Byte)
    (found : Option (ObjIx × KindField)) (i : ObjIx) :
    lookupStep name (found, c) i = (found.or (if c.named name i then some (c.kindAt i) else none), c) := by
  unfold lookupStep
  simp only [readObj_ofClean clean]
  cases live : c.record? i with
  | none => simp [Coord.named, live]
  | some o => cases found <;> by_cases same : o.name = name <;> simp [Coord.named, Coord.kindAt, live, same]

/-- With no wrong bit in any record the lookup answers the first entry of the name, and changes nothing (R5). -/
theorem nameLookup_ofClean {c : Coord} (clean : ∀ i o h, (c.obj i).body = .live o h → h = .clean) (name : List Byte) :
    nameLookup name c = (((indices 256).find? (c.named name)).map c.kindAt, c) := by
  have walk (is : List ObjIx) (found : Option (ObjIx × KindField)) :
      is.foldl (lookupStep name) (found, c) = (found.or ((is.find? (c.named name)).map c.kindAt), c) := by
    induction is generalizing found with
    | nil => simp
    | cons i is ih =>
      rw [List.foldl_cons, lookupStep_ofClean clean, ih, List.find?_cons]
      cases c.named name i <;> simp
  exact (walk _ none).trans (by simp)

/-- A name that no LIVE object has is not found. -/
theorem nameLookup_absent {c : Coord} (clean : ∀ i o h, (c.obj i).body = .live o h → h = .clean) {name : List Byte}
    (absent : ∀ k o, c.record? k = some o → o.name ≠ name) : nameLookup name c = (none, c) := by
  have unnamed : (indices 256).find? (c.named name) = none := by
    rw [List.find?_eq_none]
    intro k _
    cases live : c.record? k with
    | none => simp [Coord.named, live]
    | some o => simp [Coord.named, live, absent k o live]
  rw [nameLookup_ofClean clean, unnamed]
  rfl

/-- The first LIVE object of a name is found. -/
theorem nameLookup_first {c : Coord} (clean : ∀ i o h, (c.obj i).body = .live o h → h = .clean) {name : List Byte}
    {i : ObjIx} {o : ObjRecord} (live : c.record? i = some o) (same : o.name = name)
    (first : ∀ k u, k < i → c.record? k = some u → u.name ≠ name) :
    nameLookup name c = (some (i, o.kind.field), c) := by
  have named : c.named name i = true := by simp [Coord.named, live, same]
  have below (k : ObjIx) (lower : k < i) : c.named name k = false := by
    cases found : c.record? k with
    | none => simp [Coord.named, found]
    | some u => simp [Coord.named, found, first k u lower found]
  rw [nameLookup_ofClean clean, find_lowest _ i named below]
  simp [Coord.kindAt, live]

/-- Only objects count for the lookup, and the renewal writes none. -/
theorem objectsClean.renewed {s : State} (clean : objectsClean s) (j : SessIx) (x : SessRecord) (i : ObjIx)
    (o : ObjRecord) (h : Health) (body : ((s.coord.setSessRecord j x).obj i).body = .live o h) : h = .clean :=
  clean i o h (by simpa using body)

/-! ### FIND -/

theorem nameLengthOk_of {name : List Byte} (low : 1 ≤ name.length) (high : name.length ≤ 16) :
    nameLengthOk name = true := by
  simp [nameLengthOk, low, high]

/-- Settles O7: FIND reports what the lookup finds, which reads and writes nothing else. -/
theorem findLooksNameUp : Obligations.FindLooksNameUp := by
  constructor
  · intro s p r j x name i o takes request served clean low high live same first
    have runs := exec_find_runs s p r name j x takes request served
    have looked := nameLookup_first (c := s.coord.setSessRecord j x.renewed) (clean.renewed j _)
      (by rwa [Coord.record?_setSessRecord]) same fun k u lower found =>
        first k u lower (by rwa [Coord.record?_setSessRecord] at found)
    refine renewal_only runs ?_
    unfold findBody
    simp [nameLengthOk_of low high, looked, Coord.objHandle]
  · intro s p r j x name takes request served clean low high absent
    have runs := exec_find_runs s p r name j x takes request served
    have looked := nameLookup_absent (c := s.coord.setSessRecord j x.renewed) (name := name) (clean.renewed j _)
      fun k o found => absent k o (by rwa [Coord.record?_setSessRecord] at found)
    refine renewal_only runs ?_
    unfold findBody
    simp [nameLengthOk_of low high, looked]

/-! ### CREATE -/

theorem createChecks_passes {kind : Byte} {name : List Byte} {rank cap : Option Byte} {ceil init : Option Nat}
    (allowed : createAllowed kind name rank cap ceil init) : createChecks kind name rank cap ceil init = none := by
  obtain ⟨low, high, fields⟩ := allowed
  have length := nameLengthOk_of low high
  rcases fields with ⟨rfl, rfl, rfl, capacity⟩ | ⟨rfl, rfl, rfl, ceiling, value⟩
  · cases cap with
    | none => simp [createChecks, KindField.code, length]
    | some n =>
      obtain ⟨low, high⟩ := capacity n rfl
      simp [createChecks, KindField.code, length]
      omega
  · have checked : init.any (fun v => decide (ceil.getD Config.maxU32 < v)) = false := by
      cases init with
      | none => rfl
      | some v => simpa using value
    have positive : ceil.any (fun n => decide (n = 0)) = false := by
      cases ceil with
      | none => rfl
      | some n => simpa using Nat.pos_iff_ne_zero.mp ceiling
    simp [createChecks, KindField.code, length, checked, positive]

/-- A new name takes the lowest-numbered FREE entry (R8). -/
theorem createBody_new {s : State} {j : SessIx} {x : SessRecord} {kind : Byte} {name : List Byte} {oie : Bool}
    {rank cap : Option Byte} {ceil init : Option Nat} {i : ObjIx} (ctx : RequestContext) (clean : objectsClean s)
    (allowed : createAllowed kind name rank cap ceil init) (absent : ∀ k o, s.coord.record? k = some o → o.name ≠ name)
    (free : (s.coord.obj i).body = .free) (lowest : ∀ k, k < i → (s.coord.obj k).body ≠ .free) :
    createBody kind name oie rank cap ceil init j ctx (s.coord.setSessRecord j x) =
      (.create .ok (s.coord.objHandle i) (newRecord kind name rank cap ceil init).kind.field false,
        (s.coord.setSessRecord j x).setObj i
          ⟨(s.coord.obj i).gen, .live (newRecord kind name rank cap ceil init) .clean⟩) := by
  have looked := nameLookup_absent (c := s.coord.setSessRecord j x) (name := name) (clean.renewed j _)
    fun k o found => absent k o (by rwa [Coord.record?_setSessRecord] at found)
  have room : (s.coord.setSessRecord j x).freeObj? = some i :=
    find_lowest _ i (by simp [free]) fun k lower => by simpa using lowest k lower
  unfold createBody
  simp [createChecks_passes allowed, looked, room, Coord.objHandle, Coord.setObjBody_eq]

/-- Settles O6: the field checks come first, then the lookup, and a new name goes to the lowest FREE entry. -/
theorem createMakesLockOrCounter : Obligations.CreateMakesLockOrCounter := by
  refine ⟨?lock, ?counter, ?existing, ?refused⟩
  case lock =>
    intro s p r j x name oie rank cap i takes request served clean low high capacity absent free lowest
    have runs := exec_create_runs s p r 1 name oie rank cap none none j x takes request served
    exact renewal_and_object runs
      (createBody_new _ clean ⟨low, high, .inl ⟨rfl, rfl, rfl, capacity⟩⟩ absent free lowest)
  case counter =>
    intro s p r j x name oie ceil init i takes request served clean low high ceiling value absent free lowest
    have runs := exec_create_runs s p r 2 name oie none none ceil init j x takes request served
    exact renewal_and_object runs
      (createBody_new _ clean ⟨low, high, .inr ⟨rfl, rfl, rfl, ceiling, value⟩⟩ absent free lowest)
  case existing =>
    intro s p r j x kind name oie rank cap ceil init takes request served clean allowed
    have runs := exec_create_runs s p r kind name oie rank cap ceil init j x takes request served
    constructor
    · intro absent full
      have looked := nameLookup_absent (c := s.coord.setSessRecord j x.renewed) (name := name) (clean.renewed j _)
        fun k o found => absent k o (by rwa [Coord.record?_setSessRecord] at found)
      have room : (s.coord.setSessRecord j x.renewed).freeObj? = none := by
        simpa [Coord.freeObj?, List.find?_eq_none] using full
      refine renewal_only runs ?_
      unfold createBody
      simp [createChecks_passes allowed, looked, room]
    · intro i o live same first
      have looked := nameLookup_first (c := s.coord.setSessRecord j x.renewed) (clean.renewed j _)
        (by rwa [Coord.record?_setSessRecord]) same fun k u lower found =>
          first k u lower (by rwa [Coord.record?_setSessRecord] at found)
      have code : (o.kind.field.code = kind) = (kind = if o.kind.field = .lock then 1 else 2) := by
        cases o.kind <;> simp [ObjKind.field, KindField.code, eq_comm]
      obtain ⟨t, ran, frame, answer, only⟩ := renewal_only (j := j) (x := x) runs (reply := .create
        (if oie = false then .exists else if kind = (if o.kind.field = .lock then 1 else 2) then .ok else .wrongKind)
        (s.coord.objHandle i) o.kind.field true) (by
          unfold createBody
          simp [createChecks_passes allowed, looked, Coord.objHandle, code])
      exact ⟨t, ran, frame, only, answer⟩
  case refused =>
    intro s p r j x kind name oie rank cap ceil init takes request served refused
    have runs := exec_create_runs s p r kind name oie rank cap ceil init j x takes request served
    have checks := createChecks_refuses kind name rank cap ceil init refused
    obtain ⟨t, ran, frame, answer, only⟩ := renewal_only (j := j) (x := x) runs (by
      unfold createBody
      simp only [checks]
      rfl)
    exact ⟨t, ran, frame, only, answer⟩

/-! ### DESCRIBE -/

/-- DESCRIBE of a LIVE object with a sound record answers from the record (R13). -/
theorem describeBody_names {s : State} {h : Handle} {o : ObjRecord} (names : namesObject s h o) (j k : SessIx)
    (x : SessRecord) (ctx : RequestContext) :
    describeBody h k ctx (s.coord.setSessRecord j x) = (.describe .ok o.description, s.coord.setSessRecord j x) := by
  unfold describeBody
  rw [resolveRecord_names s h o _ names (by simp)]

/-- Settles O10: the record resolved is the one described. -/
theorem describeReportsRecord : Obligations.DescribeReportsRecord := by
  intro s p r j x h name takes request served
  have runs := exec_describe_runs s p r h j x takes request served
  refine ⟨fun l names => ?_, fun k names => ?_⟩
  · obtain ⟨t, ran, frame, answer, only⟩ := renewal_only runs (describeBody_names names _ _ _ _)
    exact ⟨t, ran, frame, only, answer⟩
  · obtain ⟨t, ran, frame, answer, only⟩ := renewal_only runs (describeBody_names names _ _ _ _)
    exact ⟨t, ran, frame, only, answer⟩

/-! ### LIST_OBJECTS -/

/-- What LIST_OBJECTS reports of entry `i` (R14). -/
def Coord.objListing (c : Coord) (i : ObjIx) : ObjListing :=
  ⟨c.objHandle i, ((c.record? i).map (·.kind.field)).getD .unknown, (c.record? i).isNone⟩

/-- Entry `i` is one that LIST_OBJECTS reports from `start` on. -/
def Coord.objListed (c : Coord) (start : Nat) (i : ObjIx) : Bool := decide (start ≤ i.val) && (c.obj i).body != .free

theorem objWalkStep_reports {c : Coord} (clean : ∀ i o h, (c.obj i).body = .live o h → h = .clean) {start : Nat}
    {i : ObjIx} {entries : List ObjListing}
    (seen : ¬ (i.val < start ∨ (none : Option Nat).isSome = true ∨ (c.obj i).body = .free))
    (fewer : entries.length < 6) :
    objWalkStep start ⟨entries, none, c⟩ i = ⟨entries ++ [c.objListing i], none, c⟩ := by
  rw [objWalkStep, if_neg seen, if_pos fewer]
  simp only [readObj_ofClean clean]
  cases live : c.record? i <;> simp [Coord.objListing, live]

/-- With no wrong bit in any record, the walk reports the entries listed until it has six, and then gives the index of
the next one. -/
theorem objWalk_ofClean {c : Coord} (clean : ∀ i o h, (c.obj i).body = .live o h → h = .clean) (start : Nat)
    (is : List ObjIx) (entries : List ObjListing) (n : Nat) (room : entries.length + n = 6) :
    is.foldl (objWalkStep start) ⟨entries, none, c⟩ =
      ⟨entries ++ ((is.filter (c.objListed start)).take n).map c.objListing,
        (is.filter (c.objListed start))[n]?.map (·.val), c⟩ := by
  have ended (is : List ObjIx) (entries : List ObjListing) (v : Nat) :
      is.foldl (objWalkStep start) ⟨entries, some v, c⟩ = ⟨entries, some v, c⟩ := by
    induction is with
    | nil => rfl
    | cons i is ih => rw [List.foldl_cons, objWalkStep, if_pos (by simp), ih]
  induction is generalizing entries n with
  | nil => simp
  | cons i is ih =>
    rw [List.foldl_cons, List.filter_cons]
    by_cases listed : c.objListed start i = true
    · have seen : ¬ (i.val < start ∨ (none : Option Nat).isSome = true ∨ (c.obj i).body = .free) := by
        simpa [Coord.objListed, Nat.not_lt] using listed
      rw [if_pos listed]
      cases n with
      | zero =>
        have full : ¬ entries.length < 6 := by omega
        rw [objWalkStep, if_neg seen, if_neg full, ended]
        simp
      | succ n =>
        rw [objWalkStep_reports clean seen (by omega), ih _ n (by simp; omega)]
        simp
    · have unseen : i.val < start ∨ (none : Option Nat).isSome = true ∨ (c.obj i).body = .free := by
        simpa [Coord.objListed, Nat.not_le, or_iff_not_imp_left] using listed
      rw [objWalkStep, if_pos unseen, if_neg listed, ih _ n room]

/-- Settles O11: the walk reads every entry and, with no wrong bit in any record, writes none. -/
theorem listObjectsReportsEntries : Obligations.ListObjectsReportsEntries := by
  intro s p r j x start takes request served clean found
  have runs := exec_listObjects_runs s p r start j x takes request served
  have listed : (s.coord.setSessRecord j x.renewed).objListed start.toNat = s.coord.objListed start.toNat := by
    funext i
    simp [Coord.objListed]
  have listing : (s.coord.setSessRecord j x.renewed).objListing = s.coord.objListing := by
    funext i
    simp [Coord.objListing, Coord.objHandle, Coord.record?_setSessRecord]
  have walk := objWalk_ofClean (clean.renewed j x.renewed) start.toNat (indices 256) [] 6 rfl
  rw [listed, listing] at walk
  obtain ⟨t, ran, frame, answer, only⟩ := renewal_only (j := j) (x := x) runs (by
    unfold listObjectsBody
    simp only [walk]
    rfl)
  exact ⟨t, ran, frame, only, answer⟩

/-! ### LIST_SESSIONS -/

/-- What LIST_SESSIONS reports of a current session (R100). -/
def Coord.sessListing (c : Coord) (k : SessIx) (b : SessCurrent) : SessListing :=
  ⟨c.sessHandle k, b.orphaned, b.bound, b.record.holds.length, b.record.lockWaits + b.record.counterWaits,
    b.record.label.length⟩

/-- What LIST_SESSIONS reports of entry `k`, which is none where the entry is FREE. -/
def Coord.sessListing? (c : Coord) (k : SessIx) : Option SessListing := (c.sess k).body.map (c.sessListing k)

/-- The label of session entry `k`, and no bytes where the entry is FREE. -/
def Coord.labelAt (c : Coord) (k : SessIx) : List Byte := ((c.sessRecord? k).map (·.label)).getD []

/-- Entry `k` is one that LIST_SESSIONS reports from `start` on. -/
def Coord.sessListed (c : Coord) (start : Nat) (k : SessIx) : Bool :=
  decide (start ≤ sessionNumber k) && (c.sess k).body.isSome

/-- With no wrong bit in any record, the walk reports the entries listed until it has its limit, and then gives the
index of the next one. -/
theorem sessWalk_ofClean {c : Coord} (clean : ∀ k b, (c.sess k).body = some b → b.health = .clean) (start limit : Nat)
    (ks : List SessIx) (entries : List SessListing) (label : List Byte) (n : Nat) (room : entries.length + n = limit) :
    ks.foldl (sessWalkStep start limit) ⟨entries, label, 0, c⟩ =
      ⟨entries ++ ((ks.filter (c.sessListed start)).take n).filterMap c.sessListing?,
        label ++ ((ks.filter (c.sessListed start)).take n).flatMap c.labelAt,
        ((ks.filter (c.sessListed start))[n]?.map sessionNumber).getD 0, c⟩ := by
  have ended (ks : List SessIx) (entries : List SessListing) (label : List Byte) (v : Nat) (known : v ≠ 0) :
      ks.foldl (sessWalkStep start limit) ⟨entries, label, v, c⟩ = ⟨entries, label, v, c⟩ := by
    induction ks with
    | nil => rfl
    | cons k ks ih => rw [List.foldl_cons, sessWalkStep, if_pos (.inr known), ih]
  induction ks generalizing entries label n with
  | nil => simp
  | cons k ks ih =>
    rw [List.foldl_cons, List.filter_cons]
    cases current : (c.sess k).body with
    | none =>
      have unlisted : ¬ c.sessListed start k = true := by simp [Coord.sessListed, current]
      have passed : sessWalkStep start limit ⟨entries, label, 0, c⟩ k = ⟨entries, label, 0, c⟩ := by
        unfold sessWalkStep
        split
        · rfl
        · simp [current]
      rw [passed, if_neg unlisted, ih _ _ n room]
    | some b =>
      by_cases late : start ≤ sessionNumber k
      · have listed : c.sessListed start k = true := by simp [Coord.sessListed, current, late]
        have seen : ¬ (sessionNumber k < start ∨ (0 : Nat) ≠ 0) := by omega
        rw [sessWalkStep, if_neg seen, if_pos listed]
        simp only [current]
        cases n with
        | zero =>
          rw [if_neg (by omega), ended ks entries label (sessionNumber k) (Nat.succ_ne_zero _)]
          simp
        | succ n =>
          rw [if_pos (by omega), readSess_clean handler k c b current (clean k b current)]
          refine (ih _ _ n (by simp; omega)).trans ?_
          simp [Coord.sessListing?, Coord.sessListing, Coord.labelAt, Coord.sessRecord?, current]
      · have unlisted : ¬ c.sessListed start k = true := by simp [Coord.sessListed, late]
        rw [sessWalkStep, if_pos (.inl (by omega)), if_neg unlisted, ih _ _ n room]

/-- Settles O5: the walk reads every entry and, with no wrong bit in any record, writes none. -/
theorem listSessionsReportsCurrentEntries : Obligations.ListSessionsReportsCurrentEntries := by
  intro s p r j x start want takes request served clean c found limit
  have runs := exec_listSessions_runs s p r start want j x takes request served
  have renewed (k : SessIx) (b : SessCurrent) (current : (c.sess k).body = some b) : b.health = .clean := by
    rw [Coord.setSessRecord_sess] at current
    split at current
    · obtain ⟨_, _, rfl⟩ := Option.map_eq_some_iff.mp current
      rfl
    · exact clean k b current
  have walk := sessWalk_ofClean renewed start.toNat limit (indices 32) [] [] limit (Nat.zero_add _)
  obtain ⟨t, ran, frame, answer, only⟩ := renewal_only (j := j) (x := x) runs (by
    unfold listSessionsBody
    simp only
    rw [walk])
  exact ⟨t, ran, frame, only, answer⟩

/-! ### DELETE without waiters -/

theorem Coord.resolve_live {c : Coord} {h : Handle} {o : ObjRecord} {condition : Health} (named : h.gen ≠ 0)
    (current : c.obj h.objIx = ⟨h.gen, .live o condition⟩) : c.resolve h = .live := by
  simpa [Coord.resolve, current] using named

theorem Coord.resolve_faulted {c : Coord} {h : Handle} (named : h.gen ≠ 0)
    (current : c.obj h.objIx = ⟨h.gen, .faulted⟩) : c.resolve h = .faulted := by
  simpa [Coord.resolve, current] using named

/-- Settles O8: the entry named is freed, in either state. -/
theorem deleteFreesIdleEntry : Obligations.DeleteFreesIdleEntry := by
  intro s p r j x h force takes request served named gen
  have runs := exec_delete_runs s p r h force j x takes request served
  have entry (body : ObjBody) (here : (s.coord.obj h.objIx).body = body) :
      (s.coord.setSessRecord j x.renewed).obj h.objIx = ⟨h.gen, body⟩ := by
    rw [Coord.setSessRecord_obj, ← gen, ← here]
  constructor
  · rintro o live rfl idle
    have current := entry _ live
    have body : deleteBody h false j (requestContext r s) (s.coord.setSessRecord j x.renewed) =
        (.delete .ok 0 0, (s.coord.setSessRecord j x.renewed).freeObj h.objIx) := by
      unfold deleteBody
      simp only [Coord.resolve_live named current]
      rw [readObj_clean handler h.objIx _ o (by rw [current])]
      simp [idle]
    rw [body] at runs
    refine ⟨_, runs, engineAfter_frame _ _ _, engineAfter_answered _ _ _, by simp [Coord.freeObj_eq, gen],
      fun k other => ?_, ?_, fun k other => ?_, by simp [Coord.freeObj_eq], ?_⟩
    · simp [Coord.freeObj_eq, Ne.symm other]
    · simp [sessionNow, Coord.freeObj_eq, Coord.setSessRecord_sess]
    · simp [Coord.freeObj_eq, Coord.setSessRecord_sess, Ne.symm other]
    · simp [noticesKept, Coord.freeObj_eq]
  · intro faulted
    have current := entry _ faulted
    have body : deleteBody h force j (requestContext r s) (s.coord.setSessRecord j x.renewed) =
        (.delete .ok 0 0, ((s.coord.setSessRecord j x.renewed).freeObj h.objIx).report .faultedFreed) := by
      unfold deleteBody
      simp only [Coord.resolve_faulted named current]
    rw [body] at runs
    refine ⟨_, runs, engineAfter_frame _ _ _, engineAfter_answered _ _ _, by simp [Coord.freeObj_eq, gen],
      fun k other => ?_, ?_, fun k other => ?_, by simp [Coord.freeObj_eq], by simp [Coord.freeObj_eq],
      by simp [Coord.freeObj_eq], by simp [Coord.freeObj_eq]⟩
    · simp [Coord.freeObj_eq, Ne.symm other]
    · simp [sessionNow, Coord.freeObj_eq, Coord.setSessRecord_sess]
    · simp [Coord.freeObj_eq, Coord.setSessRecord_sess, Ne.symm other]

end Sys2Proof.Machine
end

/-! What each operation on the tables leaves in every entry, as one reading rule per operation and table: the writing of
a session's record, of an object's kind fields, the making of a notice, the removal of a wait. -/

section
namespace Sys2Proof.Machine

/-! ### The record of a session -/

/-- Session `j`'s record has been changed, and its check code is fresh (R178). -/
def SessEntry.mapRecord (e : SessEntry) (f : SessRecord → SessRecord) : SessEntry :=
  ⟨e.gen, e.body.map fun b => { b with record := f b.record, health := .clean }⟩

theorem Coord.sess_modSess (c : Coord) (j k : SessIx) (f : SessRecord → SessRecord) :
    (c.modSess j f).sess k = if j = k then (c.sess k).mapRecord f else c.sess k := by
  unfold Coord.modSess
  cases current : (c.sess j).body with
  | none =>
    simp only [Coord.sessRecord?, current, Option.map_none]
    split
    · next same =>
      subst same
      unfold SessEntry.mapRecord
      rw [current]
      exact congrArg (SessEntry.mk _) current
    · rfl
  | some b =>
    rw [c.sessRecord?_current j b current]
    simp only [Coord.setSessRecord_sess]
    split
    · next same => subst same; simp [SessEntry.mapRecord, current]
    · rfl

@[simp] theorem Coord.objects_modSess (c : Coord) (j : SessIx) (f : SessRecord → SessRecord) :
    (c.modSess j f).objects = c.objects := by unfold Coord.modSess; split <;> simp

@[simp] theorem Coord.waits_modSess (c : Coord) (j : SessIx) (f : SessRecord → SessRecord) :
    (c.modSess j f).waits = c.waits := by unfold Coord.modSess; split <;> simp

@[simp] theorem Coord.boxes_modSess (c : Coord) (j : SessIx) (f : SessRecord → SessRecord) :
    (c.modSess j f).boxes = c.boxes := by unfold Coord.modSess; split <;> simp

@[simp] theorem Coord.engineOut_modSess (c : Coord) (j : SessIx) (f : SessRecord → SessRecord) :
    (c.modSess j f).engineOut = c.engineOut := by unfold Coord.modSess; split <;> simp

@[simp] theorem Coord.integrityOut_modSess (c : Coord) (j : SessIx) (f : SessRecord → SessRecord) :
    (c.modSess j f).integrityOut = c.integrityOut := by unfold Coord.modSess; split <;> simp

@[simp] theorem Coord.obj_modSess (c : Coord) (j : SessIx) (f : SessRecord → SessRecord) (i : ObjIx) :
    (c.modSess j f).obj i = c.obj i := by simp [Coord.obj]

@[simp] theorem Coord.wait_modSess (c : Coord) (j : SessIx) (f : SessRecord → SessRecord) (w : WaitIx) :
    (c.modSess j f).wait w = c.wait w := by simp [Coord.wait]

@[simp] theorem Coord.box_modSess (c : Coord) (j : SessIx) (f : SessRecord → SessRecord) (k : SessIx) :
    (c.modSess j f).box k = c.box k := by simp [Coord.box]

/-! ### The kind fields of an object -/

/-- The kind fields of a LIVE record have been changed, and its check code is fresh (R178). -/
def ObjEntry.mapKind (e : ObjEntry) (f : ObjKind → ObjKind) : ObjEntry :=
  ⟨e.gen, match e.body with
    | .live r _ => .live { r with kind := f r.kind } .clean
    | other => other⟩

theorem Coord.obj_setKind (c : Coord) (i k : ObjIx) (kind : ObjKind) :
    (c.setKind i kind).obj k = if i = k then (c.obj k).mapKind (fun _ => kind) else c.obj k := by
  unfold Coord.setKind Coord.record?
  split
  · next r live =>
    rw [Coord.setObjBody_eq, Coord.obj_setObj]
    split
    · next same =>
      subst same
      cases body : (c.obj i).body <;> rw [body] at live <;> cases live
      simp [ObjEntry.mapKind, body]
    · rfl
  · next dead =>
    split
    · next same =>
      subst same
      cases entry : c.obj i with
      | mk g body => cases body <;> first | rfl | simp [entry, ObjBody.record?] at dead
    · rfl

@[simp] theorem Coord.sessions_setKind (c : Coord) (i : ObjIx) (kind : ObjKind) :
    (c.setKind i kind).sessions = c.sessions := by unfold Coord.setKind; split <;> rfl

@[simp] theorem Coord.waits_setKind (c : Coord) (i : ObjIx) (kind : ObjKind) : (c.setKind i kind).waits = c.waits := by
  unfold Coord.setKind; split <;> rfl

@[simp] theorem Coord.boxes_setKind (c : Coord) (i : ObjIx) (kind : ObjKind) : (c.setKind i kind).boxes = c.boxes := by
  unfold Coord.setKind; split <;> rfl

@[simp] theorem Coord.engineOut_setKind (c : Coord) (i : ObjIx) (kind : ObjKind) :
    (c.setKind i kind).engineOut = c.engineOut := by unfold Coord.setKind; split <;> rfl

@[simp] theorem Coord.integrityOut_setKind (c : Coord) (i : ObjIx) (kind : ObjKind) :
    (c.setKind i kind).integrityOut = c.integrityOut := by unfold Coord.setKind; split <;> rfl

@[simp] theorem Coord.sess_setKind (c : Coord) (i : ObjIx) (kind : ObjKind) (j : SessIx) :
    (c.setKind i kind).sess j = c.sess j := by simp [Coord.sess]

@[simp] theorem Coord.wait_setKind (c : Coord) (i : ObjIx) (kind : ObjKind) (w : WaitIx) :
    (c.setKind i kind).wait w = c.wait w := by simp [Coord.wait]

@[simp] theorem Coord.box_setKind (c : Coord) (i : ObjIx) (kind : ObjKind) (j : SessIx) :
    (c.setKind i kind).box j = c.box j := by simp [Coord.box]

@[simp] theorem Coord.setLock_eq (c : Coord) (i : ObjIx) (l : LockRecord) : c.setLock i l = c.setKind i (.lock l) := rfl

@[simp] theorem Coord.setCounter_eq (c : Coord) (i : ObjIx) (k : CounterRecord) :
    c.setCounter i k = c.setKind i (.counter k) := rfl

/-- A wait id leaves the queue of a lock or the list of a counter. -/
def ObjKind.without (id : Handle) : ObjKind → ObjKind
  | .lock l => .lock { l with queue := l.queue.erase id }
  | .counter k => .counter { k with waiters := k.waiters.erase id }

/-- The removal of a wait id is a change of the kind fields. -/
theorem Coord.dequeue_eq (c : Coord) (i : ObjIx) (id : Handle) :
    c.dequeue i id = match c.record? i with
      | some r => c.setKind i (r.kind.without id)
      | none => c := by
  unfold Coord.dequeue
  split
  · next live => rw [live]; rfl
  · next live => rw [live]; rfl
  · next dead => rw [dead]

/-- The removal of a wait id from a LIVE object. -/
theorem Coord.dequeue_live {c : Coord} {i : ObjIx} {r : ObjRecord} (id : Handle) (live : c.record? i = some r) :
    c.dequeue i id = c.setKind i (r.kind.without id) := by
  rw [Coord.dequeue_eq, live]

/-! ### Notices -/

theorem Coord.sess_pushNotice (c : Coord) (j k : SessIx) (kind : NoticeKind) (o : Handle)
    (wait : Option (Handle × Tag)) (held : Option SlotRef) :
    (c.pushNotice j kind o wait held).sess k =
      if j = k then (c.sess k).mapRecord fun r => { r with nextSerial := advanceSerial r.nextSerial }
      else c.sess k := by
  unfold Coord.pushNotice Coord.sessRecord?
  cases current : (c.sess j).body with
  | none =>
    simp only [Option.map_none]
    split
    · next same =>
      subst same
      unfold SessEntry.mapRecord
      rw [current]
      exact congrArg (SessEntry.mk _) current
    · rfl
  | some b => simp [Coord.sess_modSess]

/-- A notice joins the tail of a current session's queue; a session that is FREE gets none (R105). -/
theorem Coord.box_pushNotice (c : Coord) (j k : SessIx) (kind : NoticeKind) (o : Handle)
    (wait : Option (Handle × Tag)) (held : Option SlotRef) :
    (c.pushNotice j kind o wait held).box k =
      if j = k then ⟨(c.box k).view, (c.box k).queue ++
        (c.sess k).body.toList.map fun b => ⟨b.record.nextSerial, kind, o, wait, false, held⟩⟩
      else c.box k := by
  unfold Coord.pushNotice Coord.sessRecord?
  cases current : (c.sess j).body with
  | none =>
    simp only [Option.map_none]
    split
    · next same => subst same; simp [current]
    · rfl
  | some b =>
    simp only [Option.map_some, Coord.box_modSess, Coord.box_setBox]
    split
    · next same => subst same; simp [current]
    · rfl

@[simp] theorem Coord.objects_pushNotice (c : Coord) (j : SessIx) (kind : NoticeKind) (o : Handle)
    (wait : Option (Handle × Tag)) (held : Option SlotRef) : (c.pushNotice j kind o wait held).objects = c.objects := by
  unfold Coord.pushNotice; split <;> simp

@[simp] theorem Coord.waits_pushNotice (c : Coord) (j : SessIx) (kind : NoticeKind) (o : Handle)
    (wait : Option (Handle × Tag)) (held : Option SlotRef) : (c.pushNotice j kind o wait held).waits = c.waits := by
  unfold Coord.pushNotice; split <;> simp

@[simp] theorem Coord.engineOut_pushNotice (c : Coord) (j : SessIx) (kind : NoticeKind) (o : Handle)
    (wait : Option (Handle × Tag)) (held : Option SlotRef) :
    (c.pushNotice j kind o wait held).engineOut = c.engineOut := by
  unfold Coord.pushNotice; split <;> simp

@[simp] theorem Coord.integrityOut_pushNotice (c : Coord) (j : SessIx) (kind : NoticeKind) (o : Handle)
    (wait : Option (Handle × Tag)) (held : Option SlotRef) :
    (c.pushNotice j kind o wait held).integrityOut = c.integrityOut := by
  unfold Coord.pushNotice; split <;> simp

@[simp] theorem Coord.obj_pushNotice (c : Coord) (j : SessIx) (kind : NoticeKind) (o : Handle)
    (wait : Option (Handle × Tag)) (held : Option SlotRef) (i : ObjIx) :
    (c.pushNotice j kind o wait held).obj i = c.obj i := by simp [Coord.obj]

@[simp] theorem Coord.wait_pushNotice (c : Coord) (j : SessIx) (kind : NoticeKind) (o : Handle)
    (wait : Option (Handle × Tag)) (held : Option SlotRef) (w : WaitIx) :
    (c.pushNotice j kind o wait held).wait w = c.wait w := by simp [Coord.wait]

end Sys2Proof.Machine
end

/-! The lock requests and CANCEL (R22 to R27, R29, R30, R33, R34, R73): what their checks find and what they write, and
from that the statements O12 to O16. -/

section
namespace Sys2Proof.Machine

/-! ### Reading what a request names -/

theorem namesObject.live {s : State} {h : Handle} {o : ObjRecord} (names : namesObject s h o) :
    s.coord.obj h.objIx = ⟨h.gen, .live o .clean⟩ := names.2

theorem resolveLock_names {s : State} {h : Handle} {name : List Byte} {l : LockRecord} {c : Coord}
    (names : namesObject s h ⟨name, .lock l⟩) (same : c.objects = s.coord.objects) : resolveLock h c = (.ok l, c) := by
  simp [resolveLock, resolveRecord_names s h _ c names same]

theorem resolveCounter_names {s : State} {h : Handle} {name : List Byte} {k : CounterRecord} {c : Coord}
    (names : namesObject s h ⟨name, .counter k⟩) (same : c.objects = s.coord.objects) :
    resolveCounter h c = (.ok k, c) := by
  simp [resolveCounter, resolveRecord_names s h _ c names same]

/-- After the renewal the session's record is the one renewed. -/
theorem sessRecord?_setSessRecord {c : Coord} {j : SessIx} {b : SessCurrent} (current : (c.sess j).body = some b)
    (x : SessRecord) : (c.setSessRecord j x).sessRecord? j = some x := by
  simp [Coord.sessRecord?, Coord.setSessRecord_sess, current]

/-- A write of one object and a change of the session whose record was just written: the record is written changed. -/
theorem modSess_setKind_setSessRecord {c : Coord} {i : ObjIx} {g : Byte} {o : ObjRecord} {condition : Health}
    (live : c.obj i = ⟨g, .live o condition⟩) (j : SessIx) (x : SessRecord) (kind : ObjKind)
    (f : SessRecord → SessRecord) :
    ((c.setSessRecord j x).setKind i kind).modSess j f =
      (c.setSessRecord j (f x)).setObj i ⟨(c.obj i).gen, .live { o with kind := kind } .clean⟩ := by
  have live' : ((c.setSessRecord j x).obj i).body = .live o condition := by simp [live]
  rw [Coord.setKind_live _ i kind o condition live', Coord.setSessRecord_obj]
  cases current : (c.sess j).body with
  | none =>
    have free (y : SessRecord) : c.setSessRecord j y = c := by simp [Coord.setSessRecord, current]
    simp [free, Coord.modSess, Coord.sessRecord?, current]
  | some b =>
    rw [c.setSessRecord_current j x b current, c.setSessRecord_current j (f x) b current,
      Coord.modSess_current _ j f { b with record := x, health := .clean } (by simp)]
    simp only [Coord.sess_setObj, Coord.sess_setSess, if_true]
    simp only [Coord.setSess, Coord.setObj, tableSet_twice]

/-! ### The checks of ACQUIRE -/

theorem hasWaitOn_false {s : State} {j : SessIx} {h : Handle} {c : Coord} (absent : notWaitingOn s j h)
    (same : c.waits = s.coord.waits) : c.hasWaitOn j h = false := by
  have entry (w : WaitIx) : c.wait w = s.coord.wait w := by simp [Coord.wait, same]
  have none (w : WaitIx) : c.waitsOn j h w = false := by
    unfold Coord.waitsOn
    rw [entry]
    cases body : (s.coord.wait w).body with
    | none => rfl
    | some y =>
      have other := absent w y body
      simp only [Bool.and_eq_false_iff, beq_eq_false_iff_ne]
      by_cases owner : y.owner = j
      · exact .inr (other owner)
      · exact .inl owner
  simp [Coord.hasWaitOn, none]

theorem deadlineOk_of {deadline : Option Nat} (range : ∀ d, deadline = some d → 1 ≤ d ∧ d ≤ 65535) :
    deadlineOk deadline = true := by
  cases deadline with
  | none => rfl
  | some d => simpa [deadlineOk] using range d rfl

/-- Mode 0 asks for the lock EXCLUSIVE, mode 1 for it SHARED (R189). -/
theorem acquireKind?_of {mode : Byte} (known : mode = 0 ∨ mode = 1) :
    acquireKind? mode = some (if mode = 0 then .exclusive else .shared) := by
  rcases known with rfl | rfl <;> rfl

/-- An ACQUIRE that passes the checks before it comes to the ordered-acquisition check (R22, R23). -/
theorem acquireBody_ordered {s : State} {j : SessIx} {x : SessRecord} {b : SessCurrent} {h : Handle} {mode : Byte}
    {try_ : Bool} {deadline : Option Nat} {name : List Byte} {l : LockRecord} (ctx : RequestContext)
    (current : (s.coord.sess j).body = some b) (names : namesObject s h ⟨name, .lock l⟩)
    (known : mode = 0 ∨ mode = 1) (range : ∀ d, deadline = some d → 1 ≤ d ∧ d ≤ 65535) (unheld : h ∉ x.holds)
    (absent : notWaitingOn s j h) (fewer : x.holds.length + x.lockWaits < 8) :
    acquireBody h mode try_ deadline j ctx (s.coord.setSessRecord j x) =
      match orderCheck j x l.rank (s.coord.setSessRecord j x) with
      | (false, c) => (acquireRefusal .orderViolation, c)
      | (true, c) =>
        match c.lock? h.objIx with
        | some l => acquireOutcome h l (if mode = 0 then .exclusive else .shared) try_ deadline j ctx c
        | none => (acquireRefusal .faulted, c) := by
  have few : ¬ Config.holdLimit ≤ x.holds.length + x.lockWaits := Nat.not_le.mpr fewer
  unfold acquireBody
  rw [resolveLock_names names (by simp)]
  simp only [acquireKind?_of known, sessRecord?_setSessRecord current, deadlineOk_of range,
    hasWaitOn_false absent (Coord.setSessRecord_waits _ _ _), Bool.not_true, Bool.false_eq_true, if_false,
    if_neg unheld, if_neg few] <;> rfl

/-- For a session without the ordered flag nothing is read and nothing refused (R24). -/
theorem acquireBody_unordered {s : State} {j : SessIx} {x : SessRecord} {b : SessCurrent} {h : Handle} {mode : Byte}
    {try_ : Bool} {deadline : Option Nat} {name : List Byte} {l : LockRecord} (ctx : RequestContext)
    (current : (s.coord.sess j).body = some b) (names : namesObject s h ⟨name, .lock l⟩)
    (known : mode = 0 ∨ mode = 1) (range : ∀ d, deadline = some d → 1 ≤ d ∧ d ≤ 65535) (unheld : h ∉ x.holds)
    (absent : notWaitingOn s j h) (fewer : x.holds.length + x.lockWaits < 8) (unordered : x.ordered = false) :
    acquireBody h mode try_ deadline j ctx (s.coord.setSessRecord j x) =
      acquireOutcome h l (if mode = 0 then .exclusive else .shared) try_ deadline j ctx
        (s.coord.setSessRecord j x) := by
  have here : (s.coord.setSessRecord j x).lock? h.objIx = some l :=
    Coord.lock?_live _ _ name l .clean (by simp [names.live])
  rw [acquireBody_ordered ctx current names known range unheld absent fewer, orderCheck, unordered]
  simp only [Bool.false_eq_true, if_false, here]

/-! ### ACQUIRE granted or queued -/

/-- The headroom as the tables hold it after the renewal (R107). -/
theorem headroom_setSessRecord {c : Coord} {j : SessIx} {b : SessCurrent} (current : (c.sess j).body = some b)
    (x : SessRecord) : (c.setSessRecord j x).headroom j =
      32 - (2 * x.lockWaits + x.counterWaits + x.holds.length + (c.box j).queue.length) := by
  simp [Coord.headroom, Coord.charge, sessRecord?_setSessRecord current, Config.noticeBudget]

theorem freeWaitIx?_lowest {s : State} {w : WaitIx} {c : Coord} (lowest : lowestFreeWait s w)
    (same : c.waits = s.coord.waits) : c.freeWaitIx? = some w := by
  have entry (v : WaitIx) : c.wait v = s.coord.wait v := by simp [Coord.wait, same]
  refine find_lowest _ w (by simp [entry, lowest.1]) fun v lower => ?_
  simpa [entry, Option.isSome_iff_ne_none] using lowest.2 v lower

/-- Settles O12: past its checks an ACQUIRE takes the lock or joins the tail of its queue. -/
theorem acquireGrantsOrQueues : Obligations.AcquireGrantsOrQueues := by
  constructor
  · intro s p r j x h mode try_ deadline name l takes request served names range unheld absent fewer unordered empty
      headroom grantable
    obtain ⟨b, current, _, _⟩ := served.current
    have runs := exec_acquire_runs s p r h mode try_ deadline j x takes request served
    have known : mode = 0 ∨ mode = 1 := grantable.imp And.left And.left
    rw [acquireBody_unordered (x := x.renewed) _ current names known range unheld absent fewer unordered] at runs
    have test : l.grantTest (if mode = 0 then .exclusive else .shared) = true := by
      rcases grantable with ⟨rfl, free⟩ | ⟨rfl, free | ⟨shared, room⟩⟩
      · simp [LockRecord.grantTest, LockRecord.grantable, empty, free]
      · simp [LockRecord.grantTest, LockRecord.grantable, LockRecord.sharedRoom, empty, free]
      · simp [LockRecord.grantTest, LockRecord.grantable, LockRecord.sharedRoom, empty, shared, room]
    have room : ¬ (s.coord.setSessRecord j x.renewed).headroom j < 1 := by
      rw [headroom_setSessRecord current]
      simp only [SessRecord.renewed]
      omega
    have lockMode : WaitKind.lockMode (if mode = 0 then .exclusive else .shared) =
        if mode = 0 then LockMode.exclusive else .shared := by
      split <;> rfl
    refine renewal_and_object (i := h.objIx) runs ?_
    unfold acquireOutcome
    simp only [test, if_true, if_neg room, grantNow, Coord.setLock_eq]
    rw [modSess_setKind_setSessRecord names.live, LockRecord.addHolder, lockMode]
    rfl
  · intro s p r j x h mode deadline name l w takes request served names range unheld absent fewer unordered headroom
      lowest refused waitId
    obtain ⟨b, current, _, _⟩ := served.current
    have runs := exec_acquire_runs s p r h mode false deadline j x takes request served
    have known : mode = 0 ∨ mode = 1 := refused.imp And.left And.left
    rw [acquireBody_unordered (x := x.renewed) _ current names known range unheld absent fewer unordered] at runs
    have test : ¬ l.grantTest (if mode = 0 then .exclusive else .shared) = true := by
      rcases refused with ⟨rfl, queued | held⟩ | ⟨rfl, queued | held | ⟨shared, full⟩⟩
      · simp [LockRecord.grantTest, queued]
      · simp [LockRecord.grantTest, LockRecord.grantable, held]
      · simp [LockRecord.grantTest, queued]
      · simp [LockRecord.grantTest, LockRecord.grantable, LockRecord.sharedRoom, held]
      · simp [LockRecord.grantTest, LockRecord.grantable, LockRecord.sharedRoom, shared, full]
    have room : ¬ (s.coord.setSessRecord j x.renewed).headroom j < 2 := by
      rw [headroom_setSessRecord current]
      simp only [SessRecord.renewed]
      omega
    unfold acquireOutcome at runs
    simp only [if_neg test, Bool.false_eq_true, if_false, if_neg room,
      freeWaitIx?_lowest lowest (Coord.setSessRecord_waits s.coord j x.renewed)] at runs
    have isLock : (if mode = 0#8 then WaitKind.exclusive else .shared).isLock = true := by split <;> rfl
    refine ⟨_, runs, engineAfter_frame _ _ _, ?_, ?_, ?_, ?_, fun k other => ?_, fun k other => ?_,
      fun v other => ?_, ?_⟩
    · simpa [waitId] using engineAfter_answered r _ s
    · simp [placeWait, Coord.obj_setKind, names.live, ObjEntry.mapKind, waitId]
    · simp [placeWait, requestContext, slotRefOf]
    · simp [placeWait, sessionNow, Coord.sess_modSess, Coord.setSessRecord_sess, SessEntry.mapRecord, current,
        SessRecord.raiseCount, isLock, SessRecord.renewed]
    · simp [placeWait, Coord.obj_setKind, Ne.symm other]
    · simp [placeWait, Coord.sess_modSess, Coord.setSessRecord_sess, Ne.symm other]
    · simp [placeWait, Ne.symm other]
    · simp [placeWait, noticesKept]

/-! ### The ordered-acquisition check -/

/-- Settles O13: the one lock held has a rank that is not below the one asked for (R24). -/
theorem orderedAcquireRefusesLowRank : Obligations.OrderedAcquireRefusesLowRank := by
  intro s p r j x h g mode try_ deadline name name' l m takes request served names names' range known held other
    waitless few ordered rank
  obtain ⟨b, current, _, _⟩ := served.current
  have runs := exec_acquire_runs s p r h mode try_ deadline j x takes request served
  have unheld : h ∉ x.renewed.holds := by simpa [SessRecord.renewed, held] using other
  have absent : notWaitingOn s j h := fun w y body owner => absurd owner (waitless w y body)
  have fewer : x.renewed.holds.length + x.renewed.lockWaits < 8 := by
    simp only [SessRecord.renewed, held, List.length_singleton]
    omega
  have ranked : (s.coord.setSessRecord j x.renewed).rankedLocks j x.renewed = [g] := by
    unfold Coord.rankedLocks
    rw [List.filterMap_eq_nil_iff.mpr]
    · simp [SessRecord.renewed, held]
    · intro w _
      rw [Coord.setSessRecord_wait]
      cases body : (s.coord.wait w).body with
      | none => rfl
      | some y => simp [waitless w y body]
  have read : readObj handler g.objIx (s.coord.setSessRecord j x.renewed) =
      (some ⟨name', .lock m⟩, s.coord.setSessRecord j x.renewed) :=
    readObj_clean _ _ _ _ (by simp [names'.live])
  have check : orderCheck j x.renewed l.rank (s.coord.setSessRecord j x.renewed) =
      (false, s.coord.setSessRecord j x.renewed) := by
    have flag : x.renewed.ordered = true := ordered
    simp only [orderCheck, flag, if_true, ranked, List.foldl_cons, List.foldl_nil, rankStep, read]
    simpa using rank
  refine renewal_only runs ?_
  rw [acquireBody_ordered _ current names known range unheld absent fewer, check]
  rfl

/-! ### RELEASE -/

/-- RELEASE by a holder comes to the grant pass of the lock it has left (R33). -/
theorem releaseBody_holder {s : State} {j : SessIx} {x : SessRecord} {b : SessCurrent} {h : Handle} {name : List Byte}
    {l : LockRecord} (repaired : Bool) (ctx : RequestContext) (current : (s.coord.sess j).body = some b)
    (names : namesObject s h ⟨name, .lock l⟩) (holds : h ∈ x.holds) :
    releaseBody h repaired j ctx (s.coord.setSessRecord j x) =
      let c := (s.coord.setSessRecord j { x with holds := x.holds.erase h }).setObj h.objIx ⟨(s.coord.obj h.objIx).gen,
        .live ⟨name, .lock { l.removeHolder j with abandoned := l.abandoned && !repaired }⟩ .clean⟩
      let (grants, c) := grantPass handler none h.objIx c
      (.release .ok grants ((c.lock? h.objIx).any (·.abandoned)), c) := by
  unfold releaseBody
  rw [resolveLock_names names (by simp)]
  simp only [sessRecord?_setSessRecord current, Option.any_some, holds, decide_true, if_true, Coord.setLock_eq]
  rw [modSess_setKind_setSessRecord names.live]
  rfl

theorem releaseBody_notHeld {s : State} {j : SessIx} {x : SessRecord} {b : SessCurrent} {h : Handle} {name : List Byte}
    {l : LockRecord} (repaired : Bool) (ctx : RequestContext) (current : (s.coord.sess j).body = some b)
    (names : namesObject s h ⟨name, .lock l⟩) (unheld : h ∉ x.holds) :
    releaseBody h repaired j ctx (s.coord.setSessRecord j x) =
      (.release .notHeld 0 l.abandoned, s.coord.setSessRecord j x) := by
  unfold releaseBody
  rw [resolveLock_names names (by simp)]
  simp only [sessRecord?_setSessRecord current, Option.any_some, unheld, decide_false, Bool.false_eq_true, if_false]

/-- Settles O14: with an empty queue the grant pass finds nobody. -/
theorem releaseRemovesHold : Obligations.ReleaseRemovesHold := by
  intro s p r j x h repaired name l takes request served names
  obtain ⟨b, current, _, _⟩ := served.current
  have runs := exec_release_runs s p r h repaired j x takes request served
  constructor
  · intro holds empty
    rw [releaseBody_holder (x := x.renewed) repaired _ current names holds] at runs
    refine renewal_and_object (i := h.objIx) runs ?_
    simp only
    rw [grantPass_emptyQueue handler none h.objIx _ { l.removeHolder j with abandoned := l.abandoned && !repaired }
      (Coord.lock?_live _ _ name _ .clean (by simp)) empty]
    simp [Coord.lock?, Coord.record?, ObjBody.record?, LockRecord.removeHolder, SessRecord.renewed]
  · intro unheld
    exact renewal_only runs (releaseBody_notHeld (x := x.renewed) repaired _ current names unheld)

/-! ### A grant pass over one waiter -/

/-- The pass grants the one waiter that the lock can take (R29, R30). -/
theorem grantPass_one {H : Handler} {bar : Option SessIx} {i : ObjIx} {c : Coord} {l : LockRecord} {w : WaitIx}
    {id : Handle} {y : WaitRecord} {b : SessCurrent} (here : c.lock? i = some l) (queue : l.queue = [id])
    (waits : c.findWait id = some (w, y)) (may : bar ≠ some y.owner) (grantable : l.grantable y.kind = true)
    (current : (c.sess y.owner).body = some b) (clean : b.health = .clean) :
    grantPass H bar i c = (1, grantOne i l w id y c) := by
  have loop : grantLoop H bar i 1 c = (1, grantOne i l w id y c) := by
    simp only [grantLoop, here, queue, waits, may, grantable, ne_eq, not_false_eq_true, and_self, if_true,
      readSess_clean H y.owner c b current clean]
  simp only [grantPass, here, queue]
  exact loop

/-- Settles O15: the pass finds the lock FREE and its waiter alone in the queue. -/
theorem releaseGrantsNextWaiter : Obligations.ReleaseGrantsNextWaiter := by
  intro s p r j k x b h name l w y takes request served names held holder queue body owner other object kind current
    clean
  subst owner
  obtain ⟨b', current', _, _⟩ := served.current
  have runs := exec_release_runs s p r h false j x takes request served
  rw [releaseBody_holder (x := x.renewed) false _ current' names (by simp [SessRecord.renewed, held])] at runs
  have left : ({ l.removeHolder j with abandoned := l.abandoned && !false } : LockRecord) =
      { l with holders := [], mode := .free } := by
    simp [LockRecord.removeHolder, holder]
  have none : x.renewed.holds.erase h = [] := by simp [SessRecord.renewed, held]
  simp only [left, none] at runs
  have grantable : LockRecord.grantable { l with holders := [], mode := .free } y.kind = true := by
    rcases kind with same | same <;> simp [same, LockRecord.grantable, LockRecord.sharedRoom]
  rw [grantPass_one (w := w) (y := y) (b := b) (l := { l with holders := [], mode := .free })
    (Coord.lock?_live _ _ name _ .clean (by simp)) queue
    (by simp [Coord.findWait, body]) (by simp) grantable
    (by simp [Coord.setSessRecord_sess, Ne.symm other, current]) clean] at runs
  have isLock : y.kind.isLock = true := by rcases kind with same | same <;> simp [same, WaitKind.isLock]
  have mode : y.kind.lockMode = if y.kind = .exclusive then .exclusive else .shared := by
    rcases kind with same | same <;> simp [same, WaitKind.lockMode]
  refine ⟨_, runs, engineAfter_frame _ _ _, ?_, ?_, ?_, ?_, ?_, ?_, ?_, fun n diff => ?_, fun v diff => ?_,
    fun n diff diff' => ?_, fun n diff => ?_, ?_⟩
  · convert engineAfter_answered r _ s using 1
    simp [grantOne, Coord.freeWait_eq, Coord.pushWaitNotice, Coord.lock?, Coord.record?, Coord.obj_setKind,
      ObjEntry.mapKind, ObjBody.record?, LockRecord.addHolder]
  · simp [grantOne, Coord.freeWait_eq, Coord.pushWaitNotice, Coord.obj_setKind, ObjEntry.mapKind, names.live,
      LockRecord.addHolder, queue, mode]
  · simp [grantOne, Coord.freeWait_eq, Coord.pushWaitNotice]
  · simp [grantOne, Coord.freeWait_eq, Coord.pushWaitNotice, sessionNow, Coord.sess_pushNotice, Coord.sess_modSess,
      Coord.setSessRecord_sess, other]
  · simp [grantOne, Coord.freeWait_eq, Coord.pushWaitNotice, sessionNow, Coord.sess_pushNotice, Coord.sess_modSess,
      Coord.setSessRecord_sess, Ne.symm other, SessEntry.mapRecord, current, SessRecord.lowerCount, isLock, object]
  · simp [grantOne, Coord.freeWait_eq, Coord.pushWaitNotice, Coord.box_pushNotice, Coord.sess_modSess,
      Coord.setSessRecord_sess, Ne.symm other, SessEntry.mapRecord, current, SessRecord.lowerCount, isLock, object]
  · simp [grantOne, Coord.freeWait_eq, Coord.pushWaitNotice, Coord.box_pushNotice]
  · simp [grantOne, Coord.freeWait_eq, Coord.pushWaitNotice, Coord.obj_setKind, Ne.symm diff]
  · simp [grantOne, Coord.freeWait_eq, Coord.pushWaitNotice, Ne.symm diff]
  · simp [grantOne, Coord.freeWait_eq, Coord.pushWaitNotice, Coord.sess_pushNotice, Coord.sess_modSess,
      Coord.setSessRecord_sess, Ne.symm diff, Ne.symm diff']
  · simp [grantOne, Coord.freeWait_eq, Coord.pushWaitNotice, Coord.box_pushNotice, Ne.symm diff]
  · simp [grantOne, Coord.freeWait_eq, Coord.pushWaitNotice, reportsKept]

/-! ### CANCEL -/

/-- CANCEL of a wait of its own session on an object whose record is sound: the entry leaves the object, the owner's
count falls, the record is freed, and a lock is passed (R73). -/
theorem cancelBody_own {c : Coord} {j : SessIx} {w : WaitIx} {y : WaitRecord} {o : ObjRecord} (ctx : RequestContext)
    (gen : (c.wait w).gen ≠ 0) (body : (c.wait w).body = some y) (owner : y.owner = j)
    (live : (c.obj y.object.objIx).body = .live o .clean) :
    cancelBody (waitHandle w (c.wait w).gen) j ctx c =
      let u := ((c.setKind y.object.objIx (o.kind.without (waitHandle w (c.wait w).gen))).modSess j fun s =>
        s.lowerCount y.kind).freeWait w
      let (grants, u) := if y.kind.isLock then grantPass handler none y.object.objIx u else (0, u)
      (.cancel .ok y.object grants, u) := by
  have own : ¬ ((waitHandle w (c.wait w).gen).gen = 0 ∨ y.owner ≠ j) :=
    fun refused => refused.elim gen fun other => other owner
  unfold cancelBody
  rw [c.findWait_inUse w y body]
  simp only [if_neg own, readObj_clean handler _ c o live, Coord.dequeue_live _ (c.record?_live _ o .clean live)]

/-- Settles O16: for the counter no pass runs, and the pass of the lock finds its queue empty. -/
theorem cancelEndsOwnWait : Obligations.CancelEndsOwnWait := by
  intro s p r j x w y name waitId takes request served gen body owner
  obtain ⟨b, current, _, _⟩ := served.current
  have runs := exec_cancel_runs s p r _ j x takes request served
  have entry : (s.coord.setSessRecord j x.renewed).wait w = s.coord.wait w := by simp
  have own (o : ObjRecord) (names : namesObject s y.object o) := cancelBody_own (o := o) (requestContext r s)
    (entry ▸ gen) (by rw [entry]; exact body) owner (by rw [Coord.setSessRecord_obj, names.live])
  rw [entry] at own
  constructor
  · intro l names isLock queue
    rw [own _ names] at runs
    simp only [isLock, if_true, ObjKind.without] at runs
    rw [grantPass_emptyQueue handler none y.object.objIx _ { l with queue := l.queue.erase waitId }
      (Coord.lock?_live _ _ name _ .clean (by
        simp [Coord.freeWait_eq, Coord.obj_setKind, names.live, ObjEntry.mapKind, waitId])) (by simp [queue])] at runs
    refine ⟨_, runs, engineAfter_frame _ _ _, engineAfter_answered _ _ _, ?_, ?_, ?_, fun k other => ?_,
      fun k other => ?_, fun v other => ?_, ?_⟩
    · simp [Coord.freeWait_eq, Coord.obj_setKind, names.live, ObjEntry.mapKind, queue, waitId]
    · simp [Coord.freeWait_eq]
    · simp [Coord.freeWait_eq, sessionNow, Coord.sess_modSess, Coord.setSessRecord_sess, SessEntry.mapRecord, current,
        SessRecord.lowerCount, isLock, SessRecord.renewed]
    · simp [Coord.freeWait_eq, Coord.obj_setKind, Ne.symm other]
    · simp [Coord.freeWait_eq, Coord.sess_modSess, Coord.setSessRecord_sess, Ne.symm other]
    · simp [Coord.freeWait_eq, Ne.symm other]
    · simp [Coord.freeWait_eq, noticesKept]
  · intro k names isCounter
    rw [own _ names] at runs
    simp only [isCounter, Bool.false_eq_true, if_false, ObjKind.without] at runs
    refine ⟨_, runs, engineAfter_frame _ _ _, engineAfter_answered _ _ _, ?_, ?_, ?_, fun k other => ?_,
      fun k other => ?_, fun v other => ?_, ?_⟩
    · simp [Coord.freeWait_eq, Coord.obj_setKind, names.live, ObjEntry.mapKind, waitId]
    · simp [Coord.freeWait_eq]
    · simp [Coord.freeWait_eq, sessionNow, Coord.sess_modSess, Coord.setSessRecord_sess, SessEntry.mapRecord, current,
        SessRecord.lowerCount, isCounter, SessRecord.renewed]
    · simp [Coord.freeWait_eq, Coord.obj_setKind, Ne.symm other]
    · simp [Coord.freeWait_eq, Coord.sess_modSess, Coord.setSessRecord_sess, Ne.symm other]
    · simp [Coord.freeWait_eq, Ne.symm other]
    · simp [Coord.freeWait_eq, noticesKept]

end Sys2Proof.Machine
end

/-! The counter requests (R48 to R59): what the arithmetic requests and AWAIT store, and whom the release pass reaches,
and from that the statements O17 to O19. -/

section
namespace Sys2Proof.Machine

/-! ### Storing a value -/

theorem Coord.setObj_self {c : Coord} {i : ObjIx} {e : ObjEntry} (same : c.obj i = e) : c.setObj i e = c := by
  subst same
  exact congrArg (fun v => { c with objects := v }) (tableSet_self c.objects i)

/-- On a counter without waiters the new value is stored and the release pass finds nobody (R48, R58). -/
theorem storeValue_unwaited {c : Coord} {i : ObjIx} {g : Byte} {name : List Byte} {k : CounterRecord}
    (live : c.obj i = ⟨g, .live ⟨name, .counter k⟩ .clean⟩) (waiters : k.waiters = []) (v : Nat) :
    storeValue i k v c = (.count .ok k.value v (decide (v ≠ k.value)) 0,
      c.setObj i ⟨g, .live ⟨name, .counter { k with value := v }⟩ .clean⟩) := by
  have stored : (if v = k.value then c else c.setCounter i { k with value := v }) =
      c.setObj i ⟨g, .live ⟨name, .counter { k with value := v }⟩ .clean⟩ := by
    split
    · next same => exact (Coord.setObj_self (by rw [live, same])).symm
    · simp [Coord.setKind_live c i _ ⟨name, .counter k⟩ .clean (by rw [live]), live]
  have here : (c.setObj i ⟨g, .live ⟨name, .counter { k with value := v }⟩ .clean⟩).counter? i =
      some { k with value := v } := Coord.counter?_live _ _ name _ .clean (by simp)
  unfold storeValue
  simp only [stored, releasePass_empty handler i _ _ here waiters, ite_self, here]
  rfl

/-- An arithmetic request on the counter that its handle names comes to its own rule (R48). -/
theorem countBody_names {s : State} {h : Handle} {name : List Byte} {k : CounterRecord}
    (names : namesObject s h ⟨name, .counter k⟩) (own : CounterRecord → Coord → ReplyBody × Coord) (j n : SessIx)
    (x : SessRecord) (ctx : RequestContext) :
    countBody h own n ctx (s.coord.setSessRecord j x) = own k (s.coord.setSessRecord j x) := by
  unfold countBody
  rw [resolveCounter_names names (by simp)]

/-- A request whose rule stores `v` is done with the new value `v`. -/
theorem countDone_of_storeValue {s : State} {r : Presented} {j : SessIx} {x : SessRecord} {h : Handle}
    {name : List Byte} {k : CounterRecord} {v : Nat} {c : Instr} {out : ReplyBody × Coord}
    (names : namesObject s h ⟨name, .counter k⟩) (waiters : k.waiters = [])
    (runs : exec c s = .next (engineAfter r out s))
    (stores : out = storeValue h.objIx k v (s.coord.setSessRecord j x.renewed)) :
    ∃ t, exec c s = .next t ∧ countDone r h name k v j x s t := by
  have live : (s.coord.setSessRecord j x.renewed).obj h.objIx = ⟨h.gen, .live ⟨name, .counter k⟩ .clean⟩ := by
    simp [names.live]
  refine renewal_and_object (i := h.objIx) runs (stores.trans ?_)
  rw [storeValue_unwaited live waiters, names.live]

/-- A request whose rule refuses with RANGE. -/
theorem countOutOfRange_of {s : State} {r : Presented} {j : SessIx} {x : SessRecord} {k : CounterRecord} {c : Instr}
    {out : ReplyBody × Coord} (runs : exec c s = .next (engineAfter r out s))
    (refuses : out = (countUnchanged .range k.value, s.coord.setSessRecord j x.renewed)) :
    ∃ t, exec c s = .next t ∧ countOutOfRange r k j x s t :=
  renewal_only runs refuses

/-- A rule that answers the value and writes nothing stores the value there is. -/
theorem countUnchanged_eq_storeValue {s : State} {h : Handle} {name : List Byte} {k : CounterRecord}
    (names : namesObject s h ⟨name, .counter k⟩) (waiters : k.waiters = []) (j : SessIx) (x : SessRecord) :
    (countUnchanged .ok k.value, s.coord.setSessRecord j x) =
      storeValue h.objIx k k.value (s.coord.setSessRecord j x) := by
  have live : (s.coord.setSessRecord j x).obj h.objIx = ⟨h.gen, .live ⟨name, .counter k⟩ .clean⟩ := by
    simp [names.live]
  rw [storeValue_unwaited live waiters, Coord.setObj_self live]
  simp [countUnchanged]

/-- Settles O17: each rule stores its value or refuses, and a COUNT_READ or an unequal COUNT_SWAP stores the value there
is. -/
theorem counterRequestsStoreOrRefuse : Obligations.CounterRequestsStoreOrRefuse := by
  constructor
  · intro s p r j x h name k takes served names waiters
    refine ⟨?read, ?set, ?add, ?swap, ?raise, ?lower⟩
    case read =>
      intro request
      refine countDone_of_storeValue names waiters (exec_countRead_runs s p r h j x takes request served) ?_
      rw [countBody_names names]
      exact countUnchanged_eq_storeValue names waiters j _
    case set =>
      intro v request within
      refine countDone_of_storeValue names waiters (exec_countSet_runs s p r h v j x takes request served) ?_
      rw [countBody_names names, countSetOwn, if_neg (Nat.not_lt.mpr within)]
    case add =>
      intro d v request sum within
      refine countDone_of_storeValue names waiters (exec_countAdd_runs s p r h d j x takes request served) ?_
      have inRange : ¬ ((v : Int) < 0 ∨ (k.ceiling : Int) < v) := by omega
      rw [countBody_names names, countAddOwn, sum, if_neg inRange]
      rfl
    case swap =>
      intro e v request within
      refine countDone_of_storeValue names waiters (exec_countSwap_runs s p r h e v j x takes request served) ?_
      rw [countBody_names names, countSwapOwn, if_neg (Nat.not_lt.mpr within)]
      split
      · rfl
      · exact countUnchanged_eq_storeValue names waiters j _
    case raise =>
      intro v request within
      refine countDone_of_storeValue names waiters (exec_countRaise_runs s p r h v j x takes request served) ?_
      have larger : max k.value v = if v < k.value then k.value else v := by split <;> omega
      rw [countBody_names names, countRaiseOwn, if_neg (Nat.not_lt.mpr within), larger]
    case lower =>
      intro v request
      refine countDone_of_storeValue names waiters (exec_countLower_runs s p r h v j x takes request served) ?_
      have smaller : min k.value v = if v < k.value then v else k.value := by split <;> omega
      rw [countBody_names names, countLowerOwn, smaller]
  · intro s p r j x h name k takes served names
    refine ⟨?set, ?add, ?swap, ?raise⟩
    case set =>
      intro v request above
      refine countOutOfRange_of (exec_countSet_runs s p r h v j x takes request served) ?_
      rw [countBody_names names, countSetOwn, if_pos above]
    case add =>
      intro d request outside
      refine countOutOfRange_of (exec_countAdd_runs s p r h d j x takes request served) ?_
      rw [countBody_names names, countAddOwn, if_pos outside]
    case swap =>
      intro e v request above
      refine countOutOfRange_of (exec_countSwap_runs s p r h e v j x takes request served) ?_
      rw [countBody_names names, countSwapOwn, if_pos above]
    case raise =>
      intro v request above
      refine countOutOfRange_of (exec_countRaise_runs s p r h v j x takes request served) ?_
      rw [countBody_names names, countRaiseOwn, if_pos above]

/-! ### A release pass over one waiter -/

/-- The pass releases the one waiter whose threshold the value has reached (R59). -/
theorem releasePass_one {H : Handler} {i : ObjIx} {c : Coord} {k : CounterRecord} {w : WaitIx} {id : Handle}
    {y : WaitRecord} {b : SessCurrent} {threshold : Nat} {take : Bool} (here : c.counter? i = some k)
    (waiters : k.waiters = [id]) (waits : c.findWait id = some (w, y)) (kind : y.kind = .atLeast threshold take)
    (reached : threshold ≤ k.value) (current : (c.sess y.owner).body = some b) (clean : b.health = .clean) :
    releasePass H i c = (1, releaseOne i k w id y threshold take c) := by
  have step : releaseStep H i (0, c) id = (1, releaseOne i k w id y threshold take c) := by
    simp only [releaseStep, here, waits, kind, if_pos reached, readSess_clean H y.owner c b current clean]
  simp only [releasePass, here, waiters, List.foldl_cons, List.foldl_nil, step]

/-- Settles O18: the value stored has risen, and the pass reaches the waiter. -/
theorem risingCountReleasesWaiter : Obligations.RisingCountReleasesWaiter := by
  intro s p r j m x b h d v name k w y threshold take takes request served names sum within rises waiters body kind
    reached object owner other current clean left
  subst owner
  obtain ⟨b', current', _, _⟩ := served.current
  have runs := exec_countAdd_runs s p r h d j x takes request served
  have inRange : ¬ ((v : Int) < 0 ∨ (k.ceiling : Int) < v) := by omega
  have changed : ¬ v = k.value := by omega
  rw [countBody_names names, countAddOwn, sum, if_neg inRange, Int.toNat_natCast, storeValue, if_neg changed,
    if_pos rises] at runs
  have live : (s.coord.setSessRecord j x.renewed).obj h.objIx = ⟨h.gen, .live ⟨name, .counter k⟩ .clean⟩ := by
    simp [names.live]
  have pass := releasePass_one (H := handler) (i := h.objIx) (id := waitHandle w (s.coord.wait w).gen)
    (c := (s.coord.setSessRecord j x.renewed).setCounter h.objIx { k with value := v }) (k := { k with value := v })
    (Coord.counter?_live _ _ name _ .clean (by simp [Coord.obj_setKind, live, ObjEntry.mapKind])) waiters
    (w := w) (y := y) (by simp [Coord.findWait, body]) kind reached (b := b)
    (by simp [Coord.setSessRecord_sess, Ne.symm other, current]) clean
  rw [pass] at runs
  have isCounter : y.kind.isLock = false := by simp [kind, WaitKind.isLock]
  have value : (if take then v - threshold else v) = left := rfl
  simp only [releaseOne, value] at runs
  refine ⟨_, runs, engineAfter_frame _ _ _, ?_, ?_, ?_, ?_, ?_, ?_, ?_, fun n diff => ?_, fun n diff => ?_,
    fun n diff diff' => ?_, fun n diff => ?_, ?_⟩
  · convert engineAfter_answered r _ s using 1
    simp [Coord.freeWait_eq, Coord.pushWaitNotice, Coord.counter?, Coord.record?, Coord.obj_setKind, ObjEntry.mapKind,
      ObjBody.record?, live, changed]
  · simp [Coord.freeWait_eq, Coord.pushWaitNotice, Coord.obj_setKind, ObjEntry.mapKind, names.live, waiters]
  · simp [Coord.freeWait_eq, Coord.pushWaitNotice]
  · simp [Coord.freeWait_eq, Coord.pushWaitNotice, sessionNow, Coord.sess_pushNotice, Coord.sess_modSess,
      Coord.setSessRecord_sess, other]
  · simp [Coord.freeWait_eq, Coord.pushWaitNotice, sessionNow, Coord.sess_pushNotice, Coord.sess_modSess,
      Coord.setSessRecord_sess, Ne.symm other, SessEntry.mapRecord, current, SessRecord.lowerCount, isCounter]
  · simp [Coord.freeWait_eq, Coord.pushWaitNotice, Coord.box_pushNotice, Coord.sess_modSess, Coord.setSessRecord_sess,
      Ne.symm other, SessEntry.mapRecord, current, SessRecord.lowerCount, isCounter, object]
  · simp [Coord.freeWait_eq, Coord.pushWaitNotice, Coord.box_pushNotice]
  · simp [Coord.freeWait_eq, Coord.pushWaitNotice, Coord.obj_setKind, Ne.symm diff]
  · simp [Coord.freeWait_eq, Coord.pushWaitNotice, Ne.symm diff]
  · simp [Coord.freeWait_eq, Coord.pushWaitNotice, Coord.sess_pushNotice, Coord.sess_modSess, Coord.setSessRecord_sess,
      Ne.symm diff, Ne.symm diff']
  · simp [Coord.freeWait_eq, Coord.pushWaitNotice, Coord.box_pushNotice, Ne.symm diff]
  · simp [Coord.freeWait_eq, Coord.pushWaitNotice, reportsKept]

/-! ### AWAIT -/

/-- An AWAIT on the counter that its handle names comes to the counter's own rule (R55). -/
theorem awaitBody_names {s : State} {h : Handle} {name : List Byte} {k : CounterRecord}
    (names : namesObject s h ⟨name, .counter k⟩) (threshold : Nat) (take try_ : Bool) (deadline : Option Nat)
    (j n : SessIx) (x : SessRecord) (ctx : RequestContext) :
    awaitBody h threshold take try_ deadline n ctx (s.coord.setSessRecord j x) =
      awaitOwn h threshold take try_ deadline n ctx k (s.coord.setSessRecord j x) := by
  unfold awaitBody
  rw [resolveCounter_names names (by simp)]

/-- Settles O19: an AWAIT that its threshold does not hold up is satisfied, and any other joins the list. -/
theorem awaitSatisfiedOrQueued : Obligations.AwaitSatisfiedOrQueued := by
  constructor
  · intro s p r j x h threshold take try_ deadline name k takes request served names range absent low within reached
      left
    have runs := exec_await_runs s p r h threshold take try_ deadline j x takes request served
    have checked : ¬ (threshold < 1 ∨ k.ceiling < threshold ∨ (!deadlineOk deadline) = true) := by
      simp only [deadlineOk_of range, Bool.not_true, Bool.false_eq_true, or_false]
      omega
    have live : (s.coord.setSessRecord j x.renewed).obj h.objIx = ⟨h.gen, .live ⟨name, .counter k⟩ .clean⟩ := by
      simp [names.live]
    refine renewal_and_object (i := h.objIx) runs ?_
    rw [awaitBody_names names, awaitOwn, if_neg checked,
      hasWaitOn_false absent (Coord.setSessRecord_waits _ _ _), if_neg Bool.false_ne_true, if_pos reached, names.live]
    cases take with
    | false =>
      exact Prod.ext rfl (Coord.setObj_self (e := ⟨h.gen, .live ⟨name, .counter k⟩ .clean⟩) live).symm
    | true =>
      rw [if_pos rfl, Coord.setCounter_live _ _ _ _ .clean (by rw [live]), live]
      rfl
  · intro s p r j x h threshold take deadline name k w takes request served names range absent within below headroom
      lowest waitId
    obtain ⟨b, current, _, _⟩ := served.current
    have runs := exec_await_runs s p r h threshold take false deadline j x takes request served
    have checked : ¬ (threshold < 1 ∨ k.ceiling < threshold ∨ (!deadlineOk deadline) = true) := by
      simp only [deadlineOk_of range, Bool.not_true, Bool.false_eq_true, or_false]
      omega
    have room : ¬ (s.coord.setSessRecord j x.renewed).headroom j < 1 := by
      rw [headroom_setSessRecord current]
      simp only [SessRecord.renewed]
      omega
    rw [awaitBody_names names, awaitOwn, if_neg checked,
      hasWaitOn_false absent (Coord.setSessRecord_waits _ _ _), if_neg Bool.false_ne_true,
      if_neg (Nat.not_le.mpr below), if_neg Bool.false_ne_true, if_neg room,
      freeWaitIx?_lowest lowest (Coord.setSessRecord_waits s.coord j x.renewed)] at runs
    refine ⟨_, runs, engineAfter_frame _ _ _, ?_, ?_, ?_, ?_, fun k other => ?_, fun k other => ?_,
      fun v other => ?_, ?_⟩
    · simpa [waitId, awaitUnchanged] using engineAfter_answered r _ s
    · simp [placeWait, Coord.obj_setKind, names.live, ObjEntry.mapKind, waitId]
    · simp [placeWait, requestContext, slotRefOf]
    · simp [placeWait, sessionNow, Coord.sess_modSess, Coord.setSessRecord_sess, SessEntry.mapRecord, current,
        SessRecord.raiseCount, WaitKind.isLock, SessRecord.renewed]
    · simp [placeWait, Coord.obj_setKind, Ne.symm other]
    · simp [placeWait, Coord.sess_modSess, Coord.setSessRecord_sess, Ne.symm other]
    · simp [placeWait, Ne.symm other]
    · simp [placeWait, noticesKept]

end Sys2Proof.Machine
end

/-! CLOSE and the force-deletion (R11, R38, R90): the end of a session, the withdrawal of a wait and the revocation of a
hold, and from that the statements O4 and O9. -/

section
namespace Sys2Proof.Machine

/-! ### The end of a session without waits -/

theorem ownsNoWait.of_waits {s : State} {j : SessIx} (waitless : ownsNoWait s j) {c : Coord}
    (same : c.waits = s.coord.waits) (w : WaitIx) (y : WaitRecord) (body : (c.wait w).body = some y) : y.owner ≠ j := by
  refine waitless w y ?_
  rw [← body]
  simp [Coord.wait, same]

/-- The end of a session that waits for nothing: its holds are released, its notices discarded and its entry freed
(R90). -/
theorem endSession_waitless {H : Handler} {abandon pass : Bool} {s : State} {j : SessIx} {x : SessRecord} {c : Coord}
    {released : Nat} {u : Coord} (here : c.sessRecord? j = some x)
    (releases : x.holds.reverse.foldl (releaseHold H abandon pass j) (0, c) = (released, u))
    (waitless : ownsNoWait s j) (same : u.waits = s.coord.waits) :
    endSession H abandon pass j c = ((released, 0, (u.box j).queue.length),
      (u.setBox j ⟨none, []⟩).setSess j ⟨advanceGen (u.sess j).gen, none⟩) := by
  unfold endSession
  simp only [here, releases, removeOwnWait_none H _ pass j u (waitless.of_waits same)]
  simp

/-- The release of the one hold on a lock that nobody else holds or waits for (R38). -/
theorem releaseHold_sole {H : Handler} {s : State} {j : SessIx} {x : SessRecord} {h : Handle} {name : List Byte}
    {l : LockRecord} (names : namesObject s h ⟨name, .lock l⟩) (abandon : Bool) (queue : l.queue = []) :
    releaseHold H abandon true j (0, s.coord.setSessRecord j x) h =
      (1, (s.coord.setSessRecord j { x with holds := x.holds.erase h }).setObj h.objIx ⟨h.gen,
        .live ⟨name, .lock (if abandon then l.abandonHolder j else l.removeHolder j)⟩ .clean⟩) := by
  have read : readObj H h.objIx (s.coord.setSessRecord j x) = (some ⟨name, .lock l⟩, s.coord.setSessRecord j x) :=
    readObj_clean _ _ _ _ (by simp [names.live])
  have empty : (if abandon then l.abandonHolder j else l.removeHolder j).queue = [] := by split <;> exact queue
  have gen : (s.coord.obj h.objIx).gen = h.gen := by rw [names.live]
  unfold releaseHold
  simp only [read, Coord.setLock_eq, if_true]
  rw [modSess_setKind_setSessRecord names.live, grantPass_emptyQueue H (some j) h.objIx _ _
    (Coord.lock?_live _ _ name _ .clean (by simp)) empty, gen]

/-- Settles O4: the session waits for nothing, and the pass of the lock it releases finds nobody. -/
theorem closeEndsSession : Obligations.CloseEndsSession := by
  constructor
  · intro s p r j x takes request served unheld waitless
    obtain ⟨b, current, _, _⟩ := served.current
    have runs := exec_close_runs s p r j x takes request served
    have released : x.renewed.holds.reverse.foldl (releaseHold (handlerClosing j) false true j)
        (0, s.coord.setSessRecord j x.renewed) = (0, s.coord.setSessRecord j x.renewed) := by
      simp [SessRecord.renewed, unheld]
    rw [closeBody, endSession_waitless (sessRecord?_setSessRecord current _) released waitless (by simp)] at runs
    refine ⟨_, runs, engineAfter_frame _ _ _, ?_, ?_, ?_, fun k other => ?_, fun k other => ?_, ?_, ?_, ?_⟩
    · simpa using engineAfter_answered r _ s
    · simp [Coord.setSessRecord_sess]
    · simp
    · simp [Coord.setSessRecord_sess, Ne.symm other]
    · simp [Ne.symm other]
    · simp
    · simp
    · simp [reportsKept]
  · intro s p r j x h name l takes request served held waitless names holders queue
    obtain ⟨b, current, _, _⟩ := served.current
    have runs := exec_close_runs s p r j x takes request served
    have released : x.renewed.holds.reverse.foldl (releaseHold (handlerClosing j) false true j)
        (0, s.coord.setSessRecord j x.renewed) =
        (1, (s.coord.setSessRecord j { x.renewed with holds := [] }).setObj h.objIx ⟨h.gen,
          .live ⟨name, .lock { l with holders := [], mode := .free }⟩ .clean⟩) := by
      have left : l.removeHolder j = { l with holders := [], mode := .free } := by
        simp [LockRecord.removeHolder, holders]
      have none : x.renewed.holds.erase h = [] := by simp [SessRecord.renewed, held]
      have one : x.renewed.holds.reverse = [h] := by simp [SessRecord.renewed, held]
      rw [one, List.foldl_cons, List.foldl_nil, releaseHold_sole names false queue, none,
        if_neg Bool.false_ne_true, left]
    rw [closeBody, endSession_waitless (sessRecord?_setSessRecord current _) released waitless (by simp)] at runs
    refine ⟨_, runs, engineAfter_frame _ _ _, ?_, ?_, ?_, ?_, fun k other => ?_, fun k other => ?_, fun k other => ?_,
      ?_, ?_⟩
    · simpa using engineAfter_answered r _ s
    · simp
    · simp [Coord.setSessRecord_sess]
    · simp
    · simp [Ne.symm other]
    · simp [Coord.setSessRecord_sess, Ne.symm other]
    · simp [Ne.symm other]
    · simp
    · simp [reportsKept]

/-! ### Withdrawal and revocation -/

theorem objHandle_objIx_gen (h : Handle) : Machine.objHandle h.objIx h.gen = h := by
  cases h with
  | mk index gen => simp [Machine.objHandle, mkHandle, Handle.objIx]

/-- The withdrawal of a wait whose owner's record is sound: WITHDRAWN is queued for the owner, whose wait count falls,
the wait leaves its object and its record is freed (R11). -/
theorem withdrawOne_current {H : Handler} {why : RemovalReason} {w : WaitIx} {n : Nat} {c : Coord} {y : WaitRecord}
    {b : SessCurrent} (body : (c.wait w).body = some y) (current : (c.sess y.owner).body = some b)
    (clean : b.health = .clean) :
    withdrawOne H why w (n, c) =
      (n + 1, ((((c.pushWaitNotice (.withdrawn why) (waitHandle w (c.wait w).gen) y).modSess y.owner fun s =>
        s.lowerCount y.kind).dequeue y.object.objIx (waitHandle w (c.wait w).gen)).freeWait w)) := by
  unfold withdrawOne
  simp only [body, readSess_clean H y.owner c b current clean]

/-- The revocation of a hold from a session whose record is sound: the handle leaves its holds, REVOKED is queued for
it, and the lock loses the holder (R11). -/
theorem revokeOne_current {H : Handler} {why : RemovalReason} {h : Handle} {k : SessIx} {n : Nat} {c : Coord}
    {b : SessCurrent} (current : (c.sess k).body = some b) (clean : b.health = .clean) (holds : h ∈ b.record.holds) :
    revokeOne H why h k (n, c) =
      (n + 1, dropHolder h.objIx k ((c.modSess k fun s => { s with holds := s.holds.erase h }).pushNotice k
        (.revoked why) h none none)) := by
  unfold revokeOne
  simp only [readSess_clean H k c b current clean, if_pos holds]

/-- A session that leaves the holders of a LIVE lock. -/
theorem dropHolder_live {c : Coord} {i : ObjIx} {j : SessIx} {l : LockRecord} (here : c.lock? i = some l) :
    dropHolder i j c = c.setKind i (.lock (l.removeHolder j)) := by
  simp [dropHolder, here]

/-- A force-deletion of a LIVE object with a sound record (R11). -/
theorem deleteBody_force {s : State} {h : Handle} {o : ObjRecord} (names : namesObject s h o) (j n : SessIx)
    (x : SessRecord) (ctx : RequestContext) {withdrawn revoked : Nat} {c u : Coord}
    (withdraws : o.kind.waitIds.foldl (withdrawNamed (handlerSkipping h.objIx)) (0, s.coord.setSessRecord j x) =
      (withdrawn, c))
    (revokes : o.kind.holderList.foldl (fun acc j => revokeOne (handlerSkipping h.objIx) .deleted h j acc) (0, c) =
      (revoked, u)) :
    deleteBody h true n ctx (s.coord.setSessRecord j x) =
      (.delete .ok withdrawn revoked, u.setObj h.objIx ⟨advanceGen (u.obj h.objIx).gen, .free⟩) := by
  have current : (s.coord.setSessRecord j x).obj h.objIx = ⟨h.gen, .live o .clean⟩ := by simp [names.live]
  have handle : (s.coord.setSessRecord j x).objHandle h.objIx = h := by
    rw [Coord.objHandle, current, objHandle_objIx_gen]
  unfold deleteBody
  simp only [Coord.resolve_live names.1 current, readObj_clean handler _ _ o (by rw [current]), if_true, forceDelete,
    handle, withdraws, revokes]
  rfl

/-! ### The tables once a wait is withdrawn -/

section
variable (s : State) (j : SessIx) (x : SessRecord) (w : WaitIx) (y : WaitRecord) (kind : ObjKind)

/-- The tables once session `j`'s lease is renewed and wait `w`, in use as `y` on an object with the kind fields `kind`,
has been withdrawn by a force-deletion. -/
def withdrawnTables : Coord :=
  ((((s.coord.setSessRecord j x).pushWaitNotice (.withdrawn .deleted) (waitHandle w (s.coord.wait w).gen) y).modSess
    y.owner fun r => r.lowerCount y.kind).setKind y.object.objIx
      (kind.without (waitHandle w (s.coord.wait w).gen))).freeWait w

variable {s j x w y kind}

theorem withdrawNamed_tables {H : Handler} {o : ObjRecord} {b : SessCurrent} (names : namesObject s y.object o)
    (body : (s.coord.wait w).body = some y) (current : (s.coord.sess y.owner).body = some b) (other : y.owner ≠ j)
    (clean : b.health = .clean) :
    withdrawNamed H (0, s.coord.setSessRecord j x) (waitHandle w (s.coord.wait w).gen) =
      (1, withdrawnTables s j x w y o.kind) := by
  have entry : (s.coord.setSessRecord j x).wait w = s.coord.wait w := by simp
  have inUse := (s.coord.setSessRecord j x).findWait_inUse w y (by rw [entry]; exact body)
  rw [entry] at inUse
  have live := names.live
  simp only [withdrawNamed, inUse]
  rw [withdrawOne_current (b := b) (by rw [entry]; exact body)
    (by simp [Coord.setSessRecord_sess, Ne.symm other, current]) clean, entry,
    Coord.dequeue_live (r := o) _ (Coord.record?_live _ _ _ .clean (by simp [Coord.pushWaitNotice, live]))]
  rfl

theorem obj_withdrawnTables (i : ObjIx) :
    (withdrawnTables s j x w y kind).obj i = if y.object.objIx = i then (s.coord.obj i).mapKind
      (fun _ => kind.without (waitHandle w (s.coord.wait w).gen)) else s.coord.obj i := by
  simp [withdrawnTables, Coord.freeWait_eq, Coord.pushWaitNotice, Coord.obj_setKind]

theorem sess_withdrawnTables (n : SessIx) (other : y.owner ≠ j) :
    (withdrawnTables s j x w y kind).sess n =
      if j = n then (s.coord.sess n).mapRecord fun _ => x
      else if y.owner = n then (s.coord.sess n).mapRecord fun r =>
        { r with
          lockWaits := if y.kind.isLock then r.lockWaits - 1 else r.lockWaits,
          counterWaits := if y.kind.isLock then r.counterWaits else r.counterWaits - 1,
          nextSerial := advanceSerial r.nextSerial }
      else s.coord.sess n := by
  simp only [withdrawnTables, Coord.freeWait_eq, Coord.pushWaitNotice, Coord.sess_setWait, Coord.sess_setKind,
    Coord.sess_modSess, Coord.sess_pushNotice, Coord.setSessRecord_sess]
  by_cases renewed : j = n
  · subst renewed
    simp [other, SessEntry.mapRecord]
  · by_cases owner : y.owner = n
    · simp only [owner, renewed, if_true, if_false, SessEntry.mapRecord, SessRecord.lowerCount]
      cases y.kind.isLock <;> cases (s.coord.sess n).body <;> rfl
    · simp [renewed, owner]

theorem box_withdrawnTables (n : SessIx) (other : y.owner ≠ j) :
    (withdrawnTables s j x w y kind).box n =
      if y.owner = n then ⟨(s.coord.box n).view, (s.coord.box n).queue ++ (s.coord.sess n).body.toList.map fun b =>
        ⟨b.record.nextSerial, .withdrawn .deleted, y.object, some (waitHandle w (s.coord.wait w).gen, y.tag), false,
          y.slotRef⟩⟩
      else s.coord.box n := by
  simp only [withdrawnTables, Coord.freeWait_eq, Coord.pushWaitNotice, Coord.box_setWait, Coord.box_setKind,
    Coord.box_modSess, Coord.box_pushNotice, Coord.setSessRecord_sess, Coord.setSessRecord_box]
  by_cases owner : y.owner = n
  · have unrenewed : ¬ j = n := fun same => other (owner.trans same.symm)
    simp only [owner, if_true, if_neg unrenewed]
  · simp [owner]

theorem wait_withdrawnTables (v : WaitIx) :
    (withdrawnTables s j x w y kind).wait v =
      if w = v then ⟨advanceGen (s.coord.wait w).gen, none⟩ else s.coord.wait v := by
  simp [withdrawnTables, Coord.freeWait_eq, Coord.pushWaitNotice]

theorem reports_withdrawnTables :
    (withdrawnTables s j x w y kind).engineOut = s.coord.engineOut ∧
      (withdrawnTables s j x w y kind).integrityOut = s.coord.integrityOut := by
  simp [withdrawnTables, Coord.freeWait_eq, Coord.pushWaitNotice]

end

/-- Settles O9: the waits are withdrawn and then the holds revoked, one of each at most, from sound records. -/
theorem forceDeleteRevokesHolder : Obligations.ForceDeleteRevokesHolder := by
  constructor
  · intro s p r j k x b h name l takes request served names holders queue other current clean holds
    have runs := exec_delete_runs s p r h true j x takes request served
    have revoked := revokeOne_current (H := handlerSkipping h.objIx) (why := .deleted) (n := 0)
      (c := s.coord.setSessRecord j x.renewed) (k := k) (b := b)
      (by simp [Coord.setSessRecord_sess, Ne.symm other, current]) clean holds
    rw [dropHolder_live (l := l) (Coord.lock?_live _ _ name l .clean (by simp [names.live]))] at revoked
    rw [deleteBody_force names j j x.renewed _ (withdrawn := 0) (c := s.coord.setSessRecord j x.renewed)
      (by simp [ObjKind.waitIds, queue]) (by simpa [ObjKind.holderList, holders] using revoked)] at runs
    refine ⟨_, runs, engineAfter_frame _ _ _, engineAfter_answered _ _ _, ?_, fun n diff => ?_, ?_, ?_,
      fun n diff diff' => ?_, ?_, fun n diff => ?_, ?_, ?_, ?_⟩
    · simp [Coord.obj_setKind, names.live, ObjEntry.mapKind]
    · simp [Coord.obj_setKind, Ne.symm diff]
    · simp [sessionNow, Coord.sess_pushNotice, Coord.sess_modSess, Coord.setSessRecord_sess, other]
    · simp [sessionNow, Coord.sess_pushNotice, Coord.sess_modSess, Coord.setSessRecord_sess, Ne.symm other,
        SessEntry.mapRecord, current]
    · simp [Coord.sess_pushNotice, Coord.sess_modSess, Coord.setSessRecord_sess, Ne.symm diff, Ne.symm diff']
    · simp
    · simp [Coord.box_pushNotice, Ne.symm diff]
    · simp [Coord.box_pushNotice, Coord.sess_modSess, Coord.setSessRecord_sess, Ne.symm other, SessEntry.mapRecord,
        current]
    · simp [Coord.box_pushNotice]
    · simp [reportsKept]
  · intro s p r j m x u h name w y waitId withdrawn takes request served body object owner other current clean
    subst object owner
    have runs := exec_delete_runs s p r y.object true j x takes request served
    have done {o : ObjRecord} (names : namesObject s y.object o) {t : State} {c : Coord}
        (ran : exec (.delete p) s = .next t) (frame : engineFrame r s t)
        (left : t.coord = c.setObj y.object.objIx ⟨advanceGen (c.obj y.object.objIx).gen, .free⟩)
        (gen : (c.obj y.object.objIx).gen = y.object.gen)
        (objects : ∀ i, i ≠ y.object.objIx → c.obj i = s.coord.obj i)
        (same : c.sess j = (withdrawnTables s j x.renewed w y o.kind).sess j)
        (same' : c.sess y.owner = (withdrawnTables s j x.renewed w y o.kind).sess y.owner)
        (box : c.box y.owner = (withdrawnTables s j x.renewed w y o.kind).box y.owner)
        (waits : c.waits = (withdrawnTables s j x.renewed w y o.kind).waits)
        (reports : c.engineOut = s.coord.engineOut ∧ c.integrityOut = s.coord.integrityOut) : withdrawn t := by
      have entry (v : WaitIx) : c.wait v = (withdrawnTables s j x.renewed w y o.kind).wait v := by
        simp [Coord.wait, waits]
      refine ⟨ran, frame, ?_, fun i diff => ?_, ?_, ?_, ?_, ?_, ?_, fun v diff => ?_, ?_⟩
      · simp [left, gen]
      · simp [left, Ne.symm diff, objects i diff]
      · simp [sessionNow, left, same, sess_withdrawnTables _ other, SessEntry.mapRecord]
      · simp [sessionNow, left, same', sess_withdrawnTables _ other, Ne.symm other, SessEntry.mapRecord, current]
      · simp [left, box, box_withdrawnTables _ other, current, waitId]
      · simp [left, box, box_withdrawnTables _ other]
      · simp [left, entry, wait_withdrawnTables]
      · simp [left, entry, wait_withdrawnTables, Ne.symm diff]
      · simpa [reportsKept, left] using reports
    constructor
    · intro l k b names holders queue diff diff' current' clean' holds
      have gone := withdrawNamed_tables (H := handlerSkipping y.object.objIx) (x := x.renewed) names body current other
        clean
      have entry : (withdrawnTables s j x.renewed w y (.lock l)).obj y.object.objIx =
          ⟨y.object.gen, .live ⟨name, .lock { l with queue := [] }⟩ .clean⟩ := by
        simp [obj_withdrawnTables, names.live, ObjEntry.mapKind, ObjKind.without, queue, waitId]
      have untouched : (withdrawnTables s j x.renewed w y (.lock l)).sess k = s.coord.sess k := by
        rw [sess_withdrawnTables _ other, if_neg (Ne.symm diff), if_neg (Ne.symm diff')]
      have unboxed : (withdrawnTables s j x.renewed w y (.lock l)).box k = s.coord.box k := by
        rw [box_withdrawnTables _ other, if_neg (Ne.symm diff')]
      have revoked := revokeOne_current (H := handlerSkipping y.object.objIx) (why := .deleted) (n := 0) (b := b)
        (by rw [untouched]; exact current') clean' holds
      rw [dropHolder_live (l := { l with queue := [] })
        (Coord.lock?_live _ _ name _ .clean (by rw [Coord.obj_pushNotice, Coord.obj_modSess, entry]))] at revoked
      rw [deleteBody_force names j j x.renewed _ (by simpa [ObjKind.waitIds, queue] using gone)
        (by simpa [ObjKind.holderList, holders] using revoked)] at runs
      refine ⟨_, done names runs (engineAfter_frame _ _ _) rfl ?_ (fun i diff => ?_) ?_ ?_ ?_ ?_ ?_,
        engineAfter_answered _ _ _, ?_, ?_, ?_, fun n unj unm unk => ?_, fun n unm unk => ?_⟩
      · simp [Coord.obj_setKind, entry, ObjEntry.mapKind]
      · simp [Coord.obj_setKind, obj_withdrawnTables, Ne.symm diff]
      · simp [Coord.sess_pushNotice, Coord.sess_modSess, diff]
      · simp [Coord.sess_pushNotice, Coord.sess_modSess, diff']
      · simp [Coord.box_pushNotice, diff']
      · simp
      · simp [reports_withdrawnTables]
      · simp [sessionNow, Coord.sess_pushNotice, Coord.sess_modSess, untouched, SessEntry.mapRecord, current']
      · simp [Coord.box_pushNotice, Coord.sess_modSess, untouched, unboxed, SessEntry.mapRecord, current']
      · simp [Coord.box_pushNotice, unboxed]
      · simp [Coord.sess_pushNotice, Coord.sess_modSess, sess_withdrawnTables _ other, Ne.symm unj, Ne.symm unm,
          Ne.symm unk]
      · simp [Coord.box_pushNotice, box_withdrawnTables _ other, Ne.symm unm, Ne.symm unk]
    · intro c names waiters
      have gone := withdrawNamed_tables (H := handlerSkipping y.object.objIx) (x := x.renewed) names body current other
        clean
      rw [deleteBody_force names j j x.renewed _ (by simpa [ObjKind.waitIds, waiters] using gone)
        (revoked := 0) (u := withdrawnTables s j x.renewed w y (.counter c)) (by simp [ObjKind.holderList])] at runs
      refine ⟨_, done names runs (engineAfter_frame _ _ _) rfl ?_ (fun i diff => ?_) rfl rfl rfl rfl
        reports_withdrawnTables, engineAfter_answered _ _ _, fun n unj unm => ?_, fun n unm => ?_⟩
      · simp [obj_withdrawnTables, names.live, ObjEntry.mapKind]
      · simp [obj_withdrawnTables, Ne.symm diff]
      · simp [sess_withdrawnTables _ other, Ne.symm unj, Ne.symm unm]
      · simp [box_withdrawnTables _ other, Ne.symm unm]

end Sys2Proof.Machine
end

/-! The device requests (R167 to R172, R176, R183): what each body does to the management unit and the ports, and from
that the statements O20, O22 to O25. -/

section
namespace Sys2Proof.Machine

/-! ### Management requests with an effect -/

/-- A management request whose body answers `reply` and leaves the state `u`. -/
theorem mgmtAfter_of_effect {r : Presented} {body : MgmtBody} {s u : State} {reply : ReplyBody}
    (does : body (requestContext r s) (s.setMgmt { s.mgmt with lastServed := r.link }) = (reply, u)) :
    mgmtAfter r body s = finishRequest r reply u := by
  simp only [mgmtAfter, does]

/-- The frame of a management request that changes the management unit and the ports alone. -/
theorem finishRequest_ports_frame (r : Presented) (reply : ReplyBody) (m : Mgmt) (ports : Vector Port 4) (s : State) :
    mgmtFrame r s (finishRequest r reply { s with mgmt := m, ports := ports }) :=
  ⟨rfl, rfl, rfl, rfl, rfl, finishRequest_kept r reply s _ rfl⟩

/-! ### IDENTIFY -/

/-- Settles O20: IDENTIFY only reads, and its body is laid out from the codes and the two fields. -/
theorem identifyReportsEpochAndCause : Obligations.IdentifyReportsEpochAndCause := by
  intro s p r takes request
  obtain rfl : r.link = p := takes.2.1
  have runs := exec_identify_runs s r.link r takes request
  rw [mgmtAfter_of_reply (body := identifyBody) (reply := .identify .ok s.mgmt.epoch s.mgmt.cause) fun _ => rfl] at runs
  exact ⟨⟨_, runs, finishRequest_setMgmt_frame r _ _ s, rfl, rfl, finishRequest_answered _ _ _⟩, rfl⟩

/-! ### PARAM_SET -/

/-- A parameter that has been set reads as its new value, and every other one as before (R170). -/
theorem Params.get_set (pm : Params) {id : Byte} (low : 1 ≤ id.toNat) (high : id.toNat ≤ 9) (v : Nat) (other : Byte) :
    (pm.set id v).get other = if other = id then v else pm.get other := by
  simp only [← BitVec.toNat_inj]
  unfold Params.set
  split
  case h_10 => simp only [imp_false] at *; omega
  all_goals
    unfold Params.get
    split <;> simp_all

theorem linkOf?_val (l : Link) : linkOf? l.val = some l := by simp [linkOf?]

theorem linkOf?_eq_some {n : Nat} {l : Link} : linkOf? n = some l ↔ l.val = n := by
  unfold linkOf?
  split
  · simp [Fin.ext_iff, eq_comm]
  · simp; omega

theorem staysDown_eq_false {l : Link} {s : State} :
    staysDown l s = false ↔
      (s.port l).state ≠ .off ∧ ((s.port l).state = .failed → s.mgmt.params.autoRestart.testBit l.val = true) := by
  unfold staysDown autoRestart
  cases (s.port l).state <;> simp

/-- The ports after AUTO_RESTART has been written: each one is asked once, with the new parameters. -/
theorem foldl_autoRestarted (ls : List Link) (nodup : ls.Nodup) (s : State) :
    ∃ ports, ls.foldl (fun s l => s.modPort l (Port.autoRestarted s.mgmt.params s.mgmt.epoch l)) s =
        { s with ports := ports } ∧
      ∀ q : Link, ports[q] =
        if q ∈ ls then (s.port q).autoRestarted s.mgmt.params s.mgmt.epoch q else s.port q := by
  induction ls generalizing s with
  | nil => exact ⟨s.ports, rfl, fun q => by simp [State.port]⟩
  | cons l ls ih =>
    obtain ⟨fresh, nodup⟩ := List.nodup_cons.mp nodup
    obtain ⟨ports, folds, reads⟩ := ih nodup (s.modPort l (Port.autoRestarted s.mgmt.params s.mgmt.epoch l))
    refine ⟨ports, folds, fun q => ?_⟩
    rw [reads q, State.port_modPort]
    by_cases same : l = q
    · subst same; simp [fresh]
    · simp [same, Ne.symm same]

/-- What setting a parameter does to the ports (R152, R170). -/
def Port.paramSet (pm : Params) (epoch : BitVec 16) (id : Byte) (l : Link) (x : Port) : Port :=
  if id = 7 then x.autoRestarted pm epoch l else x

/-- Setting a parameter replaces it, and asks every port once where it is AUTO_RESTART (R170). -/
theorem applyParam_eq (id : Byte) (v : Nat) (s : State) :
    ∃ ports, applyParam id v s = { s with mgmt := { s.mgmt with params := s.mgmt.params.set id v }, ports := ports } ∧
      ∀ q : Link, ports[q] = (s.port q).paramSet (s.mgmt.params.set id v) s.mgmt.epoch id q := by
  have seven : id = 7 ↔ id.toNat = 7 := by rw [← BitVec.toNat_inj]; rfl
  unfold applyParam Port.paramSet
  simp only [seven]
  split
  · obtain ⟨ports, folds, reads⟩ := foldl_autoRestarted (indices 4) (indices_nodup 4)
      (s.setMgmt { s.mgmt with params := s.mgmt.params.set id v })
    exact ⟨ports, folds, fun q => by rw [reads q, if_pos (mem_indices q)]; rfl⟩
  · exact ⟨s.ports, rfl, fun q => rfl⟩

/-- Entering WAITING leaves a port there, or in GREETING where its lane is ready (R138). -/
theorem Port.enterWaiting_state (epoch : BitVec 16) (x : Port) :
    (x.enterWaiting epoch).state = if x.laneReady then .greeting else .waiting := by
  unfold Port.enterWaiting
  simp only
  split <;> simp [Port.enterGreeting]

theorem Port.enterWaiting_holdoffTimer (epoch : BitVec 16) (x : Port) :
    (x.enterWaiting epoch).holdoffTimer = none := by
  unfold Port.enterWaiting
  simp only
  split <;> simp [Port.enterGreeting]

theorem Port.enterWaiting_out (epoch : BitVec 16) (x : Port) : (x.enterWaiting epoch).out = x.out := by
  unfold Port.enterWaiting
  simp only
  split <;> simp [Port.enterGreeting]

/-- A PARAM_SET that names no management link whose port stays down, and whose value is in range, is taken (R170). -/
theorem paramSetBody_takes {id : Byte} {v : Nat} {s : State} (ctx : RequestContext)
    (known : 1 ≤ id.toNat ∧ id.toNat ≤ 9)
    (range : (paramRange id).1 ≤ v ∧ v ≤ (paramRange id).2)
    (usable : ∀ l : Link, id = 1 → l.val = v → staysDown l s = false) :
    paramSetBody id v ctx s = (.param .ok id.toNat v, applyParam id v s) := by
  have usable' : ¬ (id.toNat = 1 ∧ (linkOf? v).any (fun l => staysDown l s) = true) := by
    rintro ⟨one, down⟩
    obtain ⟨l, link, down⟩ := (Option.any_eq_true _ _).mp down
    simp [usable l (BitVec.eq_of_toNat_eq one) (linkOf?_eq_some.mp link)] at down
  unfold paramSetBody
  simp only [(paramIdOk_iff id).mpr known, Bool.not_true, Bool.false_eq_true, if_false]
  rw [if_neg (by omega), if_neg usable']

/-- A PARAM_SET of an unknown id is refused (R170). -/
theorem paramSetBody_unknown {id : Byte} (v : Nat) (s : State) (ctx : RequestContext)
    (unknown : ¬ (1 ≤ id.toNat ∧ id.toNat ≤ 9)) : paramSetBody id v ctx s = (.param .range 0 0, s) := by
  simp [paramSetBody, (Bool.eq_false_iff.mpr (mt (paramIdOk_iff id).mp unknown))]

/-- A PARAM_SET of a value out of range, or of a management link whose port is OFF, is refused with the value in force
(R170). -/
theorem paramSetBody_refuses {id : Byte} {v : Nat} {s : State} (ctx : RequestContext)
    (known : 1 ≤ id.toNat ∧ id.toNat ≤ 9)
    (bad : v < (paramRange id).1 ∨ (paramRange id).2 < v ∨ id = 1 ∧ ∃ l : Link, l.val = v ∧ (s.port l).state = .off) :
    paramSetBody id v ctx s = (.param .range id.toNat (s.mgmt.params.get id), s) := by
  unfold paramSetBody
  simp only [(paramIdOk_iff id).mpr known, Bool.not_true, Bool.false_eq_true, if_false]
  split
  · rfl
  case isFalse inside =>
    obtain ⟨rfl, l, rfl, off⟩ : id = 1 ∧ ∃ l : Link, l.val = v ∧ (s.port l).state = .off := by tauto
    simp [linkOf?_val, staysDown, off]

/-- Settles O22: a value that passes the checks is written, which only AUTO_RESTART lets a port notice; any other
PARAM_SET only reads. -/
theorem paramSetReplacesOrRefuses : Obligations.ParamSetReplacesOrRefuses := by
  constructor
  · intro s p r id v takes request low high least most usable
    obtain rfl : r.link = p := takes.2.1
    have runs := exec_paramSet_runs s r.link r id v takes request
    obtain ⟨ports, effect, reads⟩ := applyParam_eq id v (s.setMgmt { s.mgmt with lastServed := r.link })
    rw [mgmtAfter_of_effect (paramSetBody_takes _ ⟨low, high⟩ ⟨least, most⟩ fun l one link =>
      staysDown_eq_false.mpr (by rw [link]; exact usable l one link)), effect] at runs
    have get := s.mgmt.params.get_set low high v
    refine ⟨_, runs, finishRequest_ports_frame _ _ _ _ _, finishRequest_answered _ _ _, rfl, ?_, fun other diff => ?_,
      fun l => ?_⟩
    · exact (get id).trans (if_pos rfl)
    · exact (get other).trans (if_neg diff)
    · have read : _ = (s.port l).paramSet _ _ id l := reads l
      show if _ then ports[l].state = _ else ports[l] = _
      rw [read]
      split
      case isTrue restarts =>
        obtain ⟨rfl, failed, expired, bit⟩ := restarts
        have set : autoRestart (s.mgmt.params.set 7 v) l = true := bit
        rw [Port.paramSet, if_pos rfl, Port.autoRestarted, if_pos ⟨failed, expired, set⟩, Port.enterWaiting_state]
      case isFalse stays =>
        unfold Port.paramSet
        split
        case isTrue seven =>
          subst seven
          exact if_neg fun ⟨failed, expired, bit⟩ => stays ⟨rfl, failed, expired, bit⟩
        case isFalse => rfl
  · intro s p r id v takes request
    obtain rfl : r.link = p := takes.2.1
    have runs := exec_paramSet_runs s r.link r id v takes request
    refine ⟨fun unknown => ?_, fun low high bad => ?_⟩
    · rw [mgmtAfter_of_reply fun ctx => paramSetBody_unknown v _ ctx (by omega)] at runs
      exact ⟨_, runs, finishRequest_setMgmt_frame r _ _ s, finishRequest_answered _ _ _, rfl, rfl⟩
    · rw [mgmtAfter_of_reply fun ctx => paramSetBody_refuses ctx ⟨low, high⟩ bad] at runs
      exact ⟨_, runs, finishRequest_setMgmt_frame r _ _ s, finishRequest_answered _ _ _, rfl, rfl⟩

/-! ### STATS_GET -/

/-- STATS_GET of a known group answers its counters, and clears them when asked (R172). -/
theorem statsGetBody_known {g : Byte} (clear : Bool) (ctx : RequestContext) (s : State) (known : g.toNat ≤ 4) :
    statsGetBody g clear ctx s =
      (.stats .ok g.toNat (groupCounters g.toNat s.mgmt),
        s.setMgmt (if clear then clearGroup g.toNat s.mgmt else s.mgmt)) := by
  unfold statsGetBody
  rw [if_neg (by omega)]
  split <;> rfl

/-- The clear flag sets the counters of the group of a link, or of the device, to 0, and touches nothing else (R172). -/
theorem clearGroup_counters (n : Nat) (m : Mgmt) :
    (∀ l : Link, (clearGroup n m).linkStats[l].counters =
      if l.val = n then List.replicate 9 0 else m.linkStats[l].counters) ∧
    ((clearGroup n m).deviceStats.counters = if n < 4 then m.deviceStats.counters else List.replicate 4 0) ∧
    clearGroup n m =
      { m with linkStats := (clearGroup n m).linkStats, deviceStats := (clearGroup n m).deviceStats } := by
  unfold clearGroup
  split
  case h_1 l link =>
    have same := linkOf?_eq_some.mp link
    refine ⟨fun q => ?_, by rw [if_pos (by omega)], rfl⟩
    simp only [Fin.getElem_fin, tableSet_get, same, eq_comm (a := n)]
    split <;> rfl
  case h_2 none =>
    have big : ¬ n < 4 := by simpa [linkOf?] using none
    exact ⟨fun q => by rw [if_neg (by omega)], by rw [if_neg big]; rfl, rfl⟩

/-- Settles O23: the counters are read before the clear, which is a write of one group. -/
theorem statsGetReportsAndClears : Obligations.StatsGetReportsAndClears := by
  intro s p r g clear takes request known
  obtain rfl : r.link = p := takes.2.1
  have runs := exec_statsGet_runs s r.link r g clear takes request
  rw [mgmtAfter_of_effect (statsGetBody_known clear _ _ known)] at runs
  obtain ⟨links, device, rest⟩ := clearGroup_counters g.toNat { s.mgmt with lastServed := r.link }
  refine ⟨_, runs, finishRequest_ports_frame _ _ _ _ _, rfl, fun l link => ?_, fun four => ?_, fun l => ?_, ?_, ?_⟩
  · convert finishRequest_answered r _ _ using 2
    rw [groupCounters, ← link, linkOf?_val]
    rfl
  · convert finishRequest_answered r _ _ using 2
    rw [four]
    rfl
  · cases clear
    · simp
    · simpa using links l
  · cases clear
    · simp
    · have group : g.toNat < 4 ↔ ¬ g.toNat = 4 := by omega
      simpa [group] using device
  · cases clear
    · rfl
    · exact rest

/-! ### LINK_CONTROL -/

/-- START moves an OFF or FAILED port to WAITING or on, and no other (R152). -/
theorem Port.start_eq (epoch : BitVec 16) (x : Port) :
    x.start epoch = if x.state = .off ∨ x.state = .failed then x.enterWaiting epoch else x := by
  unfold Port.start
  cases x.state <;> rfl

/-- Settles O24: START and STOP are a write of the one port, and the reply reads its state. -/
theorem linkControlStartsAndStopsPort : Obligations.LinkControlStartsAndStopsPort := by
  constructor
  · intro s p l r link takes request named
    obtain rfl : r.link = p := takes.2.1
    have runs := exec_linkControlStart_runs s r.link r link 0 takes request (by decide)
    have body : linkStartBody link 0 (requestContext r s) (s.setMgmt { s.mgmt with lastServed := r.link }) =
        (.linkControl .ok l.val ((s.port l).start s.mgmt.epoch).state,
          (s.setMgmt { s.mgmt with lastServed := r.link }).modPort l (Port.start s.mgmt.epoch)) := by
      simp [linkStartBody, linkOf?_eq_some.mpr named.symm]
    rw [mgmtAfter_of_effect body] at runs
    have port : (finishRequest r (.linkControl .ok l.val ((s.port l).start s.mgmt.epoch).state)
        ((s.setMgmt { s.mgmt with lastServed := r.link }).modPort l (Port.start s.mgmt.epoch))).port l =
          (s.port l).start s.mgmt.epoch := by
      simp [finishRequest]
    refine ⟨_, runs, finishRequest_ports_frame _ _ _ _ _, rfl, fun q diff => ?_, ?_, ?_⟩
    · simp [finishRequest, Ne.symm diff]
    · rw [port]; exact finishRequest_answered _ _ _
    · rw [port, Port.start_eq]
      split
      · exact ⟨Port.enterWaiting_state _ _, Port.enterWaiting_holdoffTimer _ _, Port.enterWaiting_out _ _⟩
      · rfl
  · intro s p l r link takes request named
    obtain rfl : r.link = p := takes.2.1
    have runs := exec_linkControlStop_runs s r.link r link 1 takes request rfl
    refine ⟨fun other => ?_, fun own => ?_⟩
    · have stopped : ((s.port l).stop l).state = .off := by
        unfold Port.stop
        split
        case h_5 off => exact off
        all_goals rfl
      have body : linkStopBody link (requestContext r s) (s.setMgmt { s.mgmt with lastServed := r.link }) =
          (.linkControl .ok l.val .off,
            (s.setMgmt { s.mgmt with lastServed := r.link }).modPort l (Port.stop l)) := by
        simp [linkStopBody, linkOf?_eq_some.mpr named.symm, requestContext, other, stopped]
      rw [mgmtAfter_of_effect body] at runs
      have port : (finishRequest r (.linkControl .ok l.val .off)
          ((s.setMgmt { s.mgmt with lastServed := r.link }).modPort l (Port.stop l))).port l = (s.port l).stop l := by
        simp [finishRequest]
      refine ⟨_, runs, finishRequest_ports_frame _ _ _ _ _, rfl, fun q diff => ?_, finishRequest_answered _ _ _, ?_, ?_,
        ?_⟩
      · simp [finishRequest, Ne.symm diff]
      · rw [port, stopped]
      · rw [port]
        rintro (greeting | up)
        · simp [Port.stop, greeting, Port.breakDown, Port.report, Port.resetRecovery]
        · simp [Port.stop, up, Port.breakDown, Port.report, Port.resetRecovery]
      · rw [port]
        rintro (waiting | failed | off)
        · simp [Port.stop, waiting]
        · simp [Port.stop, failed]
        · simp [Port.stop, off]
    · have body (ctx : RequestContext) (arrived : ctx.link = r.link) (u : State) :
          linkStopBody link ctx u = (.linkControl .notPermitted l.val (u.port l).state, u) := by
        simp [linkStopBody, linkRefusal, linkOf?_eq_some.mpr named.symm, arrived, own]
      rw [mgmtAfter_of_effect (body _ rfl _)] at runs
      exact ⟨_, runs, finishRequest_ports_frame _ _ _ _ _, rfl, rfl, finishRequest_answered _ _ _⟩

/-! ### DEVICE_RESET -/

theorem scopeOf?_code (sc : Scope) : scopeOf? sc.code = some sc := by cases sc <;> rfl

/-- Settles O25: DEVICE_RESET of a known scope changes the management unit alone. -/
theorem deviceResetBecomesPending : Obligations.DeviceResetBecomesPending := by
  intro s p r scope sc takes request known
  subst known
  obtain rfl : r.link = p := takes.2.1
  have runs := exec_deviceReset_runs s r.link r sc.code takes request
  have body (ctx : RequestContext) (u : State) : deviceResetBody sc.code ctx u =
      (.deviceReset .ok sc.code.toNat (advanceEpoch u.mgmt.epoch),
        u.setMgmt { u.mgmt with reset := some sc, grace := some Config.graceTicks }) := by
    simp [deviceResetBody, scopeOf?_code]
  rw [mgmtAfter_of_effect (body _ _)] at runs
  exact ⟨_, runs, finishRequest_ports_frame _ _ _ _ _, rfl, rfl, finishRequest_answered _ _ _⟩

end Sys2Proof.Machine
end

/-! The arbiter and the dispatcher (R118, R121, R123 to R129, R133): a search through an ordered list, the generic
checks in order, and from that the statements O27 to O29. -/

section
namespace Sys2Proof.Machine

/-! ### A search through an ordered list -/

/-- In a list that stands in a strict order, a search finds the element that answers and before which none does. -/
theorem findSome?_ordered {α β : Type} {before : α → α → Prop} (asymm : ∀ a b, before a b → ¬ before b a) {xs : List α}
    (sorted : xs.Pairwise before) (f : α → Option β) (r : β) :
    xs.findSome? f = some r ↔ ∃ a ∈ xs, f a = some r ∧ ∀ b ∈ xs, before b a → f b = none := by
  rw [List.findSome?_eq_some_iff]
  constructor
  · rintro ⟨front, a, back, rfl, found, silent⟩
    refine ⟨a, by simp, found, fun b member earlier => ?_⟩
    have later := (List.pairwise_append.mp sorted).2.1
    rcases List.mem_append.mp member with early | late
    · exact silent b early
    · rcases List.mem_cons.mp late with rfl | late
      · exact absurd earlier (asymm _ _ earlier)
      · exact absurd earlier (asymm _ _ (List.rel_of_pairwise_cons later late))
  · rintro ⟨a, member, found, silent⟩
    obtain ⟨front, back, rfl⟩ := List.append_of_mem member
    refine ⟨front, a, back, rfl, found, fun b early => silent b (by simp [early]) ?_⟩
    exact (List.pairwise_append.mp sorted).2.2 b early a (by simp)

/-! ### The arbiter -/

/-- The cyclic order after the last served port holds every port, in order (R128). -/
theorem cyclicAfter_sorted (last : Link) : (cyclicAfter last).Pairwise (servedBefore last) := by
  unfold servedBefore
  revert last
  decide

theorem mem_cyclicAfter (last p : Link) : p ∈ cyclicAfter last := by
  revert last p
  decide

/-- A port presents nothing to a unit exactly where it presents no request or its oldest PENDING one is for another
unit (R127). -/
theorem presented?_none (s : State) (q : Link) (unit : Route) :
    (presented? q s).filter (fun r => r.route == unit) = none ↔
      (presenting s q → ∀ n hdr req, ¬ oldestPending s q n hdr req unit) := by
  rw [Option.eq_none_iff_forall_ne_some]
  constructor
  · intro silent presents n hdr req oldest
    exact silent ⟨q, n, hdr, req, unit⟩ ((presented?_iff s q unit _).mpr ⟨rfl, rfl, presents, oldest⟩)
  · intro silent r offered
    obtain ⟨_, _, presents, oldest⟩ := (presented?_iff s q unit r).mp offered
    exact silent presents _ _ _ oldest

/-- Settles O27: the arbiter searches the cyclic order, in which each port offers its oldest PENDING request. -/
theorem arbiterServesNextPresentingPort : Obligations.ArbiterServesNextPresentingPort := by
  intro s unit p k hdr req
  unfold offer?
  rw [findSome?_ordered (fun a b => Nat.lt_asymm) (cyclicAfter_sorted (lastServedBy unit s))]
  constructor
  · rintro ⟨q, _, offered, silent⟩
    obtain ⟨link, _, presents, oldest⟩ := (presented?_iff s q unit _).mp offered
    obtain rfl : p = q := link
    exact ⟨presents, oldest, fun q earlier =>
      (presented?_none s q unit).mp (silent q (mem_cyclicAfter _ q) earlier)⟩
  · rintro ⟨presents, oldest, silent⟩
    exact ⟨p, mem_cyclicAfter _ p, (presented?_iff s p unit _).mpr ⟨rfl, rfl, presents, oldest⟩,
      fun q _ earlier => (presented?_none s q unit).mpr (silent q earlier)⟩

/-! ### The dispatcher -/

theorem mayTake_up {p : Link} {s : State} (up : (s.port p).state = .up) (none : s.mgmt.reset = none) :
    mayTake p s = true := by simp [mayTake, up, none]

/-- The scan of R121 stops at the lowest-numbered FREE slot. -/
theorem Dispatcher.freeSlot?_lowest (d : Dispatcher) (k : SlotIx) (free : (d.slot k).body = .free)
    (below : ∀ n, n < k → (d.slot n).body ≠ .free) : d.freeSlot? = some k :=
  find_lowest _ k (by simp [free]) fun n lower => by simp [below n lower]

/-- A REQUEST at the head of the receive buffer is taken into the lowest FREE slot (R121). -/
theorem takeHeadRequest_takes {p : Link} {s : State} {m : Message} {rest : List Message} {k : SlotIx}
    (up : (s.port p).state = .up) (none : s.mgmt.reset = none) (head : (s.port p).rxBuffer = m :: rest)
    (kind : m.kind = kindRequest) (slot : (s.disp p).freeSlot? = some k) :
    takeHeadRequest p s = takeInto p k m s := by
  simp [takeHeadRequest, mayTake_up up none, head, slot, kind]

theorem checkedSlot_error {p : Link} {m : Message} {s : State} {st : Status}
    (fails : genericChecks s.mgmt.params.mgmtLink p m s.coord = .error st) :
    checkedSlot p m s = .finished ⟨m.code, m.tag, m.session, refusal m.code s.mgmt.epoch st⟩ := by
  simp [checkedSlot, fails]

theorem checkedSlot_ok {p : Link} {m : Message} {s : State} {req : Request}
    (passes : genericChecks s.mgmt.params.mgmtLink p m s.coord = .ok req) :
    checkedSlot p m s = .pending ⟨m.code, m.tag, m.session⟩ req req.route := by
  simp [checkedSlot, passes]

theorem Port.takeHead_cons {x : Port} {m : Message} {rest : List Message} (head : x.rxBuffer = m :: rest) :
    x.takeHead = { x with rxBuffer := rest, taken := x.taken + 1 } := by simp [Port.takeHead, head]

/-- The slot a request is taken into, and the others (R121). -/
theorem takeInto_slot (p : Link) (k n : SlotIx) (m : Message) (s : State) :
    ((takeInto p k m s).disp p).slot n =
      if k = n then ⟨((s.disp p).slot k).occupancy + 1, checkedSlot p m s⟩ else (s.disp p).slot n := by
  unfold takeInto
  simp only [State.disp_setDisp, if_true]
  exact Dispatcher.slot_setSlot _ _ _ _

theorem takeInto_rest (p : Link) (k : SlotIx) (m : Message) (s : State) :
    ((takeInto p k m s).disp p).queue = (s.disp p).queue ++ [k] ∧
      ((takeInto p k m s).disp p).freed = (s.disp p).freed ∧ ((takeInto p k m s).disp p).out = (s.disp p).out := by
  simp [takeInto]

theorem takeInto_otherDisp {p q : Link} (k : SlotIx) (m : Message) (s : State) (other : q ≠ p) :
    (takeInto p k m s).disp q = s.disp q := by
  simp [takeInto, Ne.symm other]

theorem takeInto_port (p q : Link) (k : SlotIx) (m : Message) (s : State) :
    (takeInto p k m s).port q = if p = q then (s.port p).takeHead else s.port q := by
  simp [takeInto]

/-- Settles O28: taking writes port `p` and its dispatcher, at the slot the scan finds; dropping writes the port and the
dispatcher's reports. -/
theorem dispatcherTakesHeadOfBuffer : Obligations.DispatcherTakesHeadOfBuffer := by
  constructor
  · intro s p m rest k up none head kind free below
    have runs : exec (.takeRequest p) s = .next (takeInto p k m s) := by
      rw [← takeHeadRequest_takes up none head kind ((s.disp p).freeSlot?_lowest k free below)]
      rfl
    obtain ⟨queue, freed, out⟩ := takeInto_rest p k m s
    refine ⟨_, runs, rfl, rfl, rfl, rfl, rfl, rfl, fun q diff => ?_, fun q diff => takeInto_otherDisp k m s diff, ?_,
      queue, fun n diff => ?_, freed, out, ?_, fun st fails => ?_, fun req passes => ?_⟩
    · rw [takeInto_port, if_neg (Ne.symm diff)]
    · rw [takeInto_port, if_pos rfl, Port.takeHead_cons head]
    · rw [takeInto_slot, if_neg (Ne.symm diff)]
    · rw [takeInto_slot, if_pos rfl]
    · rw [takeInto_slot, if_pos rfl, checkedSlot_error fails]
    · rw [takeInto_slot, if_pos rfl, checkedSlot_ok passes]
  · intro s p m rest up none head kind
    have runs : exec (.dropNonRequest p) s = .next ((s.modPort p Port.takeHead).modDisp p
        fun d => { d with out := d.out ++ [.stat p .nonRequestDropped] }) := by
      have arm : exec (.dropNonRequest p) s = execDropNonRequest p s := rfl
      simp [arm, execDropNonRequest, mayTake_up up none, head, show ¬ m.kind = kindRequest from kind]
    refine ⟨_, runs, rfl, rfl, rfl, rfl, rfl, rfl, fun q diff => ?_, fun q diff => ?_, ?_, ?_⟩
    · simp [Ne.symm diff]
    · simp [Ne.symm diff]
    · simp [Port.takeHead_cons head]
    · simp

/-! ### The code of a request that has been read -/

/-- What a reading of a body gives is a request of code `n`. -/
def yieldsCode (n : Nat) (read : Option Request) : Prop := ∀ req, read = some req → req.code.toNat = n

theorem yieldsCode_none (n : Nat) : yieldsCode n none := nofun

theorem yieldsCode_finish {n : Nat} {req : Request} {rest : List Byte} (code : req.code.toNat = n) :
    yieldsCode n (finish req rest) := by
  intro _ read
  unfold finish at read
  split at read <;> cases read
  exact code

theorem yieldsCode_bind {n : Nat} {α : Type} {field : Option α} {next : α → Option Request}
    (each : ∀ a, yieldsCode n (next a)) : yieldsCode n (field >>= next) := by
  intro req read
  obtain ⟨a, _, read⟩ := Option.bind_eq_some_iff.mp read
  exact each a req read

theorem yieldsCode_ite {n : Nat} {c : Prop} [Decidable c] {read : Option Request} (allowed : yieldsCode n read) :
    yieldsCode n (if c then read else none) := by
  split
  exacts [allowed, yieldsCode_none n]

/-- The fields of a body are read into a request of the message's code (R124, R188). -/
theorem parseRequest_code {code flags : Byte} {body : List Byte} {req : Request}
    (read : parseRequest code flags body = some req) : req.code = code := by
  have all : yieldsCode code.toNat (parseRequest code flags body) := by
    unfold parseRequest
    split
    case h_27 => exact yieldsCode_none _
    all_goals
      rename_i code
      rw [code]
      refine yieldsCode_ite ?_
      repeat refine yieldsCode_bind fun _ => ?_
      exact yieldsCode_finish rfl
  exact BitVec.eq_of_toNat_eq (all req read)

/-! ### The session check by the handle's index -/

theorem sessIx?_outside {h : Handle} (outside : h.index = 0 ∨ 32 < h.index.toNat) : h.sessIx? = none := by
  unfold Handle.sessIx?
  rw [dif_neg]
  rintro ⟨low, high⟩
  rcases outside with zero | big
  · simp [zero] at low
  · omega

theorem sessIx?_inside {h : Handle} {j : SessIx} (inside : h.index.toNat = j.val + 1) : h.sessIx? = some j := by
  unfold Handle.sessIx?
  rw [dif_pos (by omega)]
  congr 1
  ext
  simp [inside]

theorem sessionCheck_outside {h : Handle} (resume : Bool) (p : Link) (c : Coord)
    (outside : h.index = 0 ∨ 32 < h.index.toNat) : sessionCheck resume h p c = .error .noSession := by
  simp [sessionCheck, sessIx?_outside outside]

theorem sessionCheck_other {h : Handle} {j : SessIx} (resume : Bool) (p : Link) {c : Coord}
    (inside : h.index.toNat = j.val + 1) (other : (c.sess j).body = none ∨ (c.sess j).gen ≠ h.gen) :
    sessionCheck resume h p c = .error .noSession := by
  unfold sessionCheck
  simp only [sessIx?_inside inside]
  cases body : (c.sess j).body with
  | none => rfl
  | some b => simp [other.resolve_left (by simp [body])]

theorem sessionCheck_current {h : Handle} {j : SessIx} (resume : Bool) (p : Link) {c : Coord} {b : SessCurrent}
    (inside : h.index.toNat = j.val + 1) (body : (c.sess j).body = some b) (gen : (c.sess j).gen = h.gen) :
    sessionCheck resume h p c =
      if resume = true then (if b.orphaned = true then .ok j else .error .inUse)
      else if b.orphaned = true ∨ b.bound ≠ p then .error .notBound else .ok j := by
  simp [sessionCheck, sessIx?_inside inside, body, gen]

/-! ### The generic checks -/

theorem genericChecks_length {mgmtLink : Nat} {p : Link} {m : Message} {c : Coord}
    (bad : 48 < m.bodyLen.toNat ∨ m.bodyLen.toNat ≠ m.body.length) :
    genericChecks mgmtLink p m c = .error .malformed := if_pos bad

theorem genericChecks_code {mgmtLink : Nat} {p : Link} {m : Message} {c : Coord}
    (fits : m.bodyLen.toNat ≤ 48) (exact : m.bodyLen.toNat = m.body.length) (bad : inCatalogue m.code = false) :
    genericChecks mgmtLink p m c = .error .unknownRequest := by
  unfold genericChecks
  rw [if_neg (by simp [exact] at fits ⊢; exact fits)]
  simp [bad]

theorem genericChecks_fields {mgmtLink : Nat} {p : Link} {m : Message} {c : Coord}
    (fits : m.bodyLen.toNat ≤ 48) (exact : m.bodyLen.toNat = m.body.length) (known : inCatalogue m.code = true)
    (bad : parseRequest m.code m.flags m.body = none) : genericChecks mgmtLink p m c = .error .malformed := by
  unfold genericChecks
  rw [if_neg (by simp [exact] at fits ⊢; exact fits)]
  simp [known, bad]

/-- A message whose fields have been read goes on to the checks of a device request, to none for OPEN, and to the
session check for every other request (R123). -/
theorem genericChecks_read {mgmtLink : Nat} {p : Link} {m : Message} {c : Coord} {req : Request}
    (fits : m.bodyLen.toNat ≤ 48) (exact : m.bodyLen.toNat = m.body.length) (known : inCatalogue m.code = true)
    (read : parseRequest m.code m.flags m.body = some req) :
    genericChecks mgmtLink p m c =
      if 21 ≤ m.code.toNat then
        if m.session ≠ Handle.zero then .error .malformed
        else if req.needsMgmtLink = true ∧ p.val ≠ mgmtLink then .error .notPermitted else .ok req
      else if m.code = 1 then .ok req
      else (sessionCheck (decide (m.code = 2)) m.session p c).map fun _ => req := by
  have code := parseRequest_code read
  have device : req.isDevice = decide (21 ≤ m.code.toNat) := by
    unfold Request.isDevice Request.route
    rw [code]
    split <;> simp [*]
  have resume : (req == .resume) = decide (m.code = 2) := by
    rw [← code]
    cases req <;> rfl
  unfold genericChecks
  rw [if_neg (by simp [exact] at fits ⊢; exact fits)]
  simp only [known, Bool.not_true, Bool.false_eq_true, if_false, read, device, decide_eq_true_eq, Bool.and_eq_true,
    bne_iff_ne]
  split
  · rfl
  · split
    case h_1 => exact (if_pos code.symm).symm
    case h_2 notOpen =>
      have other : ¬ m.code = 1 := by
        rw [← code]
        intro one
        cases req with
        | openSession => exact absurd rfl (notOpen _ _ _)
        | _ => exact absurd one (by simp [Request.code])
      rw [if_neg other, resume]
      cases sessionCheck (decide (m.code = 2)) m.session p c <;> rfl

/-- Settles O29: each check is read where those before it have passed. -/
theorem genericChecksInOrder : Obligations.GenericChecksInOrder := by
  intro mgmtLink p m c
  refine ⟨genericChecks_length, fun fits exact => ⟨fun bad => genericChecks_code fits exact ?_, fun low high => ?_⟩⟩
  · rcases bad with zero | big
    · simp [zero, inCatalogue]
    · simp [inCatalogue]; omega
  · have known : inCatalogue m.code = true := by simp [inCatalogue, low, high]
    refine ⟨genericChecks_fields fits exact known, fun req read => ?_⟩
    rw [genericChecks_read fits exact known read]
    refine ⟨fun device => if_pos device, fun one => by simp [one], fun session below => ?_⟩
    have notOpen : ¬ m.code = 1 := by rw [← BitVec.toNat_inj]; simp; omega
    rw [if_neg (by omega), if_neg notOpen]
    refine ⟨fun outside => by rw [sessionCheck_outside _ _ _ outside]; rfl, fun j inside => ⟨fun other => ?_,
      fun b body gen => ?_⟩⟩
    · rw [sessionCheck_other _ _ inside other]; rfl
    · rw [sessionCheck_current _ _ inside body gen]
      simp only [decide_eq_true_eq]
      (repeat' split) <;> rfl

end Sys2Proof.Machine
end

/-! The reports the engine and the notice unit take (R71, R94, R109, R112, R113), and from that the statements O30, O31
and O33. -/

section
namespace Sys2Proof.Machine

/-! ### Scans that act on each entry once -/

/-- A scan whose step keeps `inv`, and under it acts on its own entry alone, has at the end acted once on each entry it
visited. -/
theorem foldl_eachOnce {ι σ α : Type} [DecidableEq ι] {inv : σ → Prop} {step : σ → ι → σ} {read : σ → ι → α}
    {act : ι → α → α} (keeps : ∀ s i, inv s → inv (step s i))
    (acts : ∀ s i k, inv s → read (step s i) k = if i = k then act k (read s k) else read s k) (is : List ι)
    (nodup : is.Nodup) (s : σ) (holds : inv s) (k : ι) :
    read (is.foldl step s) k = if k ∈ is then act k (read s k) else read s k := by
  induction is generalizing s with
  | nil => simp
  | cons i is ih =>
    obtain ⟨fresh, nodup⟩ := List.nodup_cons.mp nodup
    rw [List.foldl_cons, ih nodup _ (keeps s i holds), acts s i k holds]
    by_cases same : i = k
    · subst same; simp [fresh]
    · simp [same, Ne.symm same]

/-- What every step of a scan keeps, the scan keeps. -/
theorem scan_invariant {ι : Type} {inv : Coord → Prop} {step : ι → Coord → Coord}
    (keeps : ∀ i c, inv c → inv (step i c)) (is : List ι) (c : Coord) (holds : inv c) : inv (scan is step c) :=
  List.foldlRecOn is _ holds fun c holds i _ => keeps i c holds

/-- What every step of a scan leaves alone, the scan leaves alone. -/
theorem scan_keeps {ι β : Type} {step : ι → Coord → Coord} {part : Coord → β}
    (keeps : ∀ i c, part (step i c) = part c) (is : List ι) (c : Coord) : part (scan is step c) = part c :=
  scan_invariant (inv := fun u => part u = part c) (fun i u same => (keeps i u).trans same) is c rfl

/-- A scan of a whole table whose step acts on its own entry alone acts once on every entry. -/
theorem scan_eachOnce {n : Nat} {α : Type} {inv : Coord → Prop} {step : Fin n → Coord → Coord}
    {read : Coord → Fin n → α} {act : Fin n → α → α} (keeps : ∀ i c, inv c → inv (step i c))
    (acts : ∀ c i k, inv c → read (step i c) k = if i = k then act k (read c k) else read c k) (c : Coord)
    (holds : inv c) (k : Fin n) : read (scan (indices n) step c) k = act k (read c k) :=
  (foldl_eachOnce (fun c i => keeps i c) acts (indices n) (indices_nodup n) c holds k).trans (if_pos (mem_indices k))

/-- A scan of a whole table in which one entry alone has something to do. -/
theorem scan_once {n : Nat} {step : Fin n → Coord → Coord} {i : Fin n} {c u : Coord}
    (before : ∀ k, k ≠ i → step k c = c) (acts : step i c = u) (after : ∀ k, k ≠ i → step k u = u) :
    scan (indices n) step c = u := by
  obtain ⟨front, back, split⟩ := List.append_of_mem (mem_indices i)
  have nodup := indices_nodup n
  rw [split, List.nodup_middle, List.nodup_cons, List.mem_append, not_or] at nodup
  obtain ⟨⟨notFront, notBack⟩, _⟩ := nodup
  have idle (ks : List (Fin n)) (other : i ∉ ks) (v : Coord) (nothing : ∀ k, k ≠ i → step k v = v) :
      scan ks step v = v := by
    refine List.foldlRecOn ks _ (motive := fun w => w = v) rfl fun w same k member => ?_
    rw [same]
    exact nothing k fun eq => other (eq ▸ member)
  have parts : scan (front ++ i :: back) step c = scan back step (step i (scan front step c)) := by
    simp [scan, List.foldl_append]
  rw [split, parts, idle front notFront c before, acts, idle back notBack u after]

/-- A scan in which no entry has anything to do. -/
theorem scan_nothing {ι : Type} {step : ι → Coord → Coord} {c : Coord} (nothing : ∀ i, step i c = c) (is : List ι) :
    scan is step c = c :=
  scan_invariant (inv := fun u => u = c) (fun i u same => by rw [same, nothing i]) is c rfl

/-! ### Freed slots -/

/-- Settles O30: the report maps every wait and every notice, and goes. -/
theorem freeingReportClearsReferences : Obligations.FreeingReportClearsReferences := by
  intro s r member
  have runs : exec (.slotFreeingReport r) s =
      .next ((s.setCoord (slotFreed r s.coord)).modDisp r.port fun d => { d with freed := d.freed.erase r }) :=
    if_pos member
  have wait (w : WaitIx) : (slotFreed r s.coord).wait w = (s.coord.wait w).clearRef r := by
    simp [Coord.wait, slotFreed]
  have box (j : SessIx) : (slotFreed r s.coord).box j =
      { s.coord.box j with queue := (s.coord.box j).queue.map (Notice.liftHold r) } := by
    simp [Coord.box, slotFreed]
  refine ⟨_, runs, fun w y body => ?_, fun w body => ?_, fun j => ⟨?_, ?_⟩, rfl, rfl, ⟨rfl, rfl⟩, ?_, fun q diff => ?_,
    rfl, rfl, rfl, rfl, rfl, rfl⟩
  · rw [State.modDisp_coord, State.setCoord_coord, wait]
    simp only [WaitEntry.clearRef, body, Option.map_some]
    split <;> rfl
  · rw [State.modDisp_coord, State.setCoord_coord, wait]
    simp only [WaitEntry.clearRef, body, Option.map_none]
    rw [← body]
  · rw [State.modDisp_coord, State.setCoord_coord, box]
  · rw [State.modDisp_coord, State.setCoord_coord, box]
    refine List.map_congr_left fun n _ => ?_
    unfold Notice.liftHold
    split <;> rfl
  · simp
  · simp [Ne.symm diff]

/-! ### Failure reports -/

/-- A session entry is OPEN and bound to link `p`. -/
def SessEntry.openOn (p : Link) (e : SessEntry) : Bool := e.body.any fun b => !b.orphaned && b.bound == p

/-- What the failure of link `p` does to a session entry, and to the notice unit's state of it (R94, R113). -/
def failSession (p : Link) (x : SessEntry × NoticeBox) : SessEntry × NoticeBox :=
  if x.1.openOn p then (⟨x.1.gen, x.1.body.map fun b => { b with orphaned := true }⟩, x.2.orphan) else x

theorem orphanOne_acts (p : Link) (c : Coord) (j k : SessIx) :
    ((orphanOne p j c).sess k, (orphanOne p j c).box k) =
      if j = k then failSession p (c.sess k, c.box k) else (c.sess k, c.box k) := by
  unfold orphanOne failSession
  split
  case h_1 b body =>
    by_cases bound : b.orphaned = false ∧ b.bound = p
    · rw [if_pos bound]
      by_cases same : j = k
      · subst same
        simp [SessEntry.openOn, body, bound]
      · simp [same]
    · rw [if_neg bound]
      by_cases same : j = k
      · subst same
        simp [SessEntry.openOn, body, bound]
      · simp [same]
  case h_2 body =>
    by_cases same : j = k
    · subst same
      simp [SessEntry.openOn, body]
    · simp [same]

theorem orphanOne_rest (p : Link) (j : SessIx) (c : Coord) :
    ((orphanOne p j c).objects, (orphanOne p j c).waits, (orphanOne p j c).engineOut, (orphanOne p j c).integrityOut) =
      (c.objects, c.waits, c.engineOut, c.integrityOut) := by
  unfold orphanOne
  (repeat' split) <;> rfl

/-- The engine's taking of a failure report acts on every session once, and on nothing else (R94). -/
theorem orphanLink_acts (p : Link) (c : Coord) (k : SessIx) :
    ((orphanLink p c).sess k, (orphanLink p c).box k) = failSession p (c.sess k, c.box k) :=
  scan_eachOnce (inv := fun _ => True) (read := fun c k => (c.sess k, c.box k)) (act := fun _ => failSession p)
    (fun _ _ h => h) (fun c j k _ => orphanOne_acts p c j k) c trivial k

theorem orphanLink_rest (p : Link) (c : Coord) :
    ((orphanLink p c).objects, (orphanLink p c).waits, (orphanLink p c).engineOut, (orphanLink p c).integrityOut) =
      (c.objects, c.waits, c.engineOut, c.integrityOut) :=
  scan_keeps (part := fun c => (c.objects, c.waits, c.engineOut, c.integrityOut)) (orphanOne_rest p) _ c

/-- Settles O31: each report acts on every session once, by the entry or by the notice unit's view. -/
theorem failureReportsOrphanAndRevert : Obligations.FailureReportsOrphanAndRevert := by
  refine fun s p => ⟨fun failed => ?_, fun failed => ?_⟩
  · have runs : exec (.orphanSessions p) s = .next ((s.setCoord (orphanLink p s.coord)).modPort p
        fun x => { x with failEngine := false, noticeAcks := [] }) := by
      have arm : exec (.orphanSessions p) s = .next (takeFailureAtEngine p s) := rfl
      rw [arm, takeFailureAtEngine, if_pos failed]
    have acts := orphanLink_acts p s.coord
    have rest := orphanLink_rest p s.coord
    generalize orphanLink p s.coord = c at runs acts rest
    simp only [Prod.mk.injEq] at rest
    obtain ⟨objects, waits, engineOut, integrityOut⟩ := rest
    refine ⟨_, runs, fun j b body open_ bound => ?_, fun j other => ?_, objects, waits, ⟨engineOut, integrityOut⟩, ?_,
      fun q diff => ?_, rfl, rfl, rfl, rfl, rfl, rfl⟩
    · have act := acts j
      rw [failSession, if_pos (by simp [SessEntry.openOn, body, open_, bound]), Prod.mk.injEq, body] at act
      obtain ⟨sess, box⟩ := act
      exact ⟨sess, by simp [box, NoticeBox.orphan], by simp [box, NoticeBox.orphan, NoticeBox.revert]⟩
    · have act := acts j
      have notOpen : (s.coord.sess j).openOn p = false := by
        unfold SessEntry.openOn
        cases body : (s.coord.sess j).body with
        | none => rfl
        | some b => simpa using other b body
      rw [failSession, notOpen, if_neg Bool.false_ne_true, Prod.mk.injEq] at act
      exact act
    · simp
    · simp [Ne.symm diff]
  · have runs : exec (.revertNotices p) s =
        .next ((s.setCoord { s.coord with boxes := tableMap (NoticeBox.failed p) s.coord.boxes }).modPort p
          fun x => { x with failNotices := false, noticeAcks := [] }) := by
      have arm : exec (.revertNotices p) s = .next (takeFailureAtNotices p s) := rfl
      rw [arm, takeFailureAtNotices, if_pos failed]
    have box (j : SessIx) : Coord.box { s.coord with boxes := tableMap (NoticeBox.failed p) s.coord.boxes } j =
        (s.coord.box j).failed p := by
      simp [Coord.box]
    refine ⟨_, runs, fun j v view open_ link => ?_, fun j other => ?_, rfl, rfl, rfl, ⟨rfl, rfl⟩, ?_, fun q diff => ?_,
      rfl, rfl, rfl, rfl, rfl, rfl⟩
    · exact (box j).trans (by simp [NoticeBox.failed, view, open_, link, NoticeBox.orphan, NoticeBox.revert])
    · refine (box j).trans ?_
      unfold NoticeBox.failed
      split
      case h_1 v view => exact if_neg fun ⟨open_, link⟩ => other v view open_ link
      case h_2 => rfl
    · simp
    · simp [Ne.symm diff]

/-! ### Acknowledged notices -/

/-- Settles O33: the first SENT notice of the serial leaves the queue. -/
theorem acknowledgedNoticeLeavesQueue : Obligations.AcknowledgedNoticeLeavesQueue := by
  intro s p j v serial rest before after n acks view queue sent named fresh
  have removed : (s.coord.box j).acked serial = ⟨some v, before ++ after⟩ := by
    have early : ∀ m ∈ before, ¬ (m.sent && m.serial == serial) = true := fun m member => by simp [fresh m member]
    simp only [NoticeBox.acked, queue, view, List.eraseP_append_right _ early]
    simp [sent, named]
  have tables : noticeAcked (Machine.sessHandle j v.gen) serial s.coord =
      s.coord.setBox j ⟨some v, before ++ after⟩ := by
    simp [noticeAcked, view, removed]
  have runs : exec (.noticeAckReport p) s = .next ((s.setCoord (s.coord.setBox j ⟨some v, before ++ after⟩)).modPort p
      fun x => { x with noticeAcks := rest }) := by
    have arm : exec (.noticeAckReport p) s = execNoticeAckReport p s := rfl
    simp [arm, execNoticeAckReport, acks, tables]
  refine ⟨_, runs, ?_, fun k diff => ?_, rfl, rfl, rfl, ⟨rfl, rfl⟩, ?_, fun q diff => ?_, rfl, rfl, rfl, rfl, rfl, rfl⟩
  · simp
  · simp [Ne.symm diff]
  · simp
  · simp [Ne.symm diff]

end Sys2Proof.Machine
end

/-! The timers and the lanes of a port (R66, R137 to R139, R148, R151, R152, R158), and from that the statements O37 to
O39. -/

section
namespace Sys2Proof.Machine

/-! ### An event of one port -/

/-- An event that changes one port leaves everything else alone. -/
theorem portFrame_modPort (p : Link) (f : Port → Port) (s : State) : portFrame p s (s.modPort p f) :=
  ⟨fun q other => by simp [Ne.symm other], rfl, rfl, rfl, rfl, rfl, rfl, rfl⟩

theorem State.port_modPort_self (s : State) (p : Link) (f : Port → Port) : (s.modPort p f).port p = f (s.port p) := by
  simp

/-- Writing a port as it is changes nothing. -/
theorem State.modPort_same {s : State} {p : Link} {f : Port → Port} (same : f (s.port p) = s.port p) :
    s.modPort p f = s := by
  have table : tableSet s.ports p (f (s.port p)) = s.ports := by rw [same]; exact tableSet_self _ _
  unfold State.modPort State.setPort
  rw [table]

/-! ### Failure -/

theorem Port.fail_state (pm : Params) (l : Link) (why : FailReason) (x : Port) : (x.fail pm l why).state = .failed :=
  rfl

theorem Port.fail_out (pm : Params) (l : Link) (why : FailReason) (x : Port) :
    (x.fail pm l why).out = x.out ++ [.linkFailed l why] := rfl

/-! ### The timers -/

/-- Settles O38: each expiry is a write of its port. -/
theorem portTimersExpire : Obligations.PortTimersExpire := by
  intro s p
  refine ⟨fun greeting expired => ?_, fun greeting expired => ?_, fun failed expired => ?_, fun up due => ?_,
    fun up discarding expired => ?_⟩
  · have fails : (s.port p).greetingExpiry s.mgmt.params p = (s.port p).fail s.mgmt.params p .noGreeting :=
      if_pos ⟨greeting, expired⟩
    refine ⟨_, rfl, portFrame_modPort _ _ _, ?_⟩
    rw [State.port_modPort_self, fails]
    exact ⟨rfl, rfl⟩
  · have offers : (s.port p).helloExpiry s.mgmt.epoch =
        { s.port p with helloTimer := some Config.helloTicks }.offerHello s.mgmt.epoch := if_pos ⟨greeting, expired⟩
    refine ⟨_, rfl, portFrame_modPort _ _ _, ?_⟩
    rw [State.port_modPort_self, offers]
    unfold Port.offerHello
    split
    case isTrue => simp [Port.sendHello, Port.launch, Port.helloNow, greeting, Config.helloTicks]
    case isFalse => rfl
  · refine ⟨_, rfl, portFrame_modPort _ _ _, ?_⟩
    rw [State.port_modPort_self, Port.holdoffExpiry, if_pos ⟨failed, expired⟩]
    change _ ∧ _ = if autoRestart s.mgmt.params p then _ else _
    split
    · exact ⟨Port.enterWaiting_holdoffTimer _ _, Port.enterWaiting_state _ _⟩
    · exact ⟨rfl, failed⟩
  · have fails : (s.port p).silenceExpiry s.mgmt.params p = (s.port p).fail s.mgmt.params p .silence :=
      if_pos ⟨up, due⟩
    refine ⟨_, rfl, portFrame_modPort _ _ _, ?_⟩
    rw [State.port_modPort_self, fails]
    exact ⟨rfl, rfl⟩
  · have expires : (s.port p).rewindExpiry s.mgmt.params p =
        if (s.port p).attempts < s.mgmt.params.rewindLimit then
          { s.port p with attempts := (s.port p).attempts + 1, rewindDue := true,
                          rewindTimer := some s.mgmt.params.rewindPeriod }
        else (s.port p).fail s.mgmt.params p .rewindLimit := if_pos ⟨up, discarding, expired⟩
    refine ⟨_, rfl, portFrame_modPort _ _ _, ?_⟩
    rw [State.port_modPort_self, expires]
    split
    · rfl
    · exact ⟨rfl, rfl⟩

/-! ### The lanes -/

/-- Settles O39: the loss of a lane is a failure, and a lane that becomes ready starts the greeting of a port that waits
for it. -/
theorem laneReportsMovePort : Obligations.LaneReportsMovePort := by
  refine ⟨fun s p live => ?_, fun s p => ?_⟩
  · have fails : (s.port p).laneBecomesLost s.mgmt.params p =
        { s.port p with laneReady := false }.fail s.mgmt.params p .laneLost := if_pos live
    refine ⟨_, rfl, portFrame_modPort _ _ _, ?_⟩
    rw [State.port_modPort_self, fails]
    exact ⟨rfl, rfl, rfl, rfl, rfl, rfl, rfl, rfl, rfl, rfl, rfl, rfl, rfl, rfl, rfl, rfl, rfl, rfl, rfl, rfl, rfl,
      rfl, rfl, rfl, rfl, rfl, rfl⟩
  · refine ⟨_, rfl, portFrame_modPort _ _ _, ?_⟩
    rw [State.port_modPort_self]
    unfold Port.laneBecomesReady Port.enterGreeting Port.offerHello
    simp only
    split
    · cases lane : (s.port p).inProgress <;> rfl
    · rfl

/-! ### The fine tick -/

/-- No timer of the port has run out, and its silence count has not reached its limit. -/
def Port.noneDue (x : Port) : Prop :=
  x.greetingTimer ≠ some 0 ∧ x.helloTimer ≠ some 0 ∧ x.holdoffTimer ≠ some 0 ∧ x.idleTimer ≠ some 0 ∧
    x.rewindTimer ≠ some 0 ∧ x.silenceDue = false

theorem idleExpiry_running {s : State} {p : Link} (running : (s.port p).idleTimer ≠ some 0) : idleExpiry p s = s := by
  unfold idleExpiry
  simp only [running, false_and, and_false, if_false]

/-- With no expiry outstanding at a port there is nothing to settle there. -/
theorem settlePort_noneDue {s : State} {p : Link} (none : (s.port p).noneDue) : settlePort s p = s := by
  obtain ⟨greeting, hello, holdoff, idle, rewind, silence⟩ := none
  have quiet : (((((s.port p).silenceExpiry s.mgmt.params p).rewindExpiry s.mgmt.params p).greetingExpiry s.mgmt.params
      p).helloExpiry s.mgmt.epoch).holdoffExpiry s.mgmt.params s.mgmt.epoch p = s.port p := by
    rw [Port.silenceExpiry, if_neg (by simp [silence]), Port.rewindExpiry, if_neg (by simp [rewind]),
      Port.greetingExpiry, if_neg (by simp [greeting]), Port.helloExpiry, if_neg (by simp [hello]), Port.holdoffExpiry,
      if_neg (by simp [holdoff])]
  have ports : (s.modPort p fun x => ((((x.silenceExpiry s.mgmt.params p).rewindExpiry s.mgmt.params p).greetingExpiry
      s.mgmt.params p).helloExpiry s.mgmt.epoch).holdoffExpiry s.mgmt.params s.mgmt.epoch p) = s :=
    State.modPort_same quiet
  have settled : settlePort s p = idleExpiry p _ := rfl
  rw [settled, ports, idleExpiry_running idle]

/-- With no expiry outstanding there is nothing to settle before a fine tick (R67). -/
theorem settleExpiries_noneDue {s : State} (none : ∀ p, (s.port p).noneDue) (grace : s.mgmt.grace ≠ some 0) :
    settleExpiries s = s := by
  have ports (ps : List Link) : ps.foldl settlePort s = s := by
    induction ps with
    | nil => rfl
    | cons p ps ih => rw [List.foldl_cons, settlePort_noneDue (none p), ih]
  rw [settleExpiries, ports, graceExpiry, if_neg grace]

/-- Settles O37: with nothing to settle and nothing disturbed, the tick itself is left. -/
theorem fineTickAdvancesTimers : Obligations.FineTickAdvancesTimers := by
  intro s none grace
  have runs : exec (.fineTick []) s = .next (advanceTick s) := by
    have arm : exec (.fineTick []) s = .next (deliverFineTick [] s) := rfl
    have calm : s.resetDue = false := by simp [State.resetDue, grace]
    rw [arm, deliverFineTick, settleExpiries_noneDue none grace]
    simp only [calm, Bool.false_eq_true, if_false]
    rfl
  refine ⟨_, runs, rfl, rfl, rfl, rfl, rfl, rfl, rfl, fun p => ?_⟩
  have ticks : (advanceTick s).port p = (s.port p).fineTick s.mgmt.params := by simp [State.port, advanceTick]
  have calm : (s.port p).silenceDue = false := (none p).2.2.2.2.2
  rw [ticks, Port.fineTick, Port.countSilence]
  split
  case isTrue up =>
    have up : (s.port p).state = .up := up
    simp [up, countDown]
  case isFalse down =>
    have down : ¬ (s.port p).state = .up := down
    simp [down, countDown, calm]

end Sys2Proof.Machine
end

/-! The frames a port receives (R140 to R148, R155 to R163): what their ack and limit do, and from that the statements
O40 to O44. -/

section
namespace Sys2Proof.Machine

/-! ### Ack and limit -/

/-- An UP port that has heard a frame other than HELLO and taken its limit (R142, R146). -/
def Port.heardLimit (x : Port) (limit : Credit) : Port :=
  { x with silence := 0, silenceDue := false, partnerHeard := true, partnerLimit := limit }

/-- An ack that names the oldest frame removes nothing, and moves no replay (R144, R162). -/
theorem Port.removeBefore_oldest {x : Port} (positioned : x.positioned) : x.removeBefore x.oldest = x := by
  have stays : x.replayAfterAck x.oldest 0 = x.replayPos := by
    unfold Port.replayAfterAck
    split
    case h_1 none => exact none.symm
    case h_2 pos some =>
      have within := positioned pos some
      rw [if_neg (by omega), if_neg (by omega), some]
  rw [Port.removeBefore_eq]
  simp [stays, noticesOf, okResetReplyIn]

theorem Port.takeLimit_inRange {x : Port} {limit : Credit} {depth : Nat} (pm : Params) (l : Link)
    (known : x.partnerDepth = some depth) (range : (limit - x.sentCount).toNat ≤ depth) :
    x.takeLimit pm l limit = { x with partnerLimit := limit } := by
  unfold Port.takeLimit
  rw [known]
  exact if_pos range

theorem Port.takeLimit_outside {x : Port} {limit : Credit} {depth : Nat} (pm : Params) (l : Link)
    (known : x.partnerDepth = some depth) (outside : ¬ (limit - x.sentCount).toNat ≤ depth) :
    x.takeLimit pm l limit = x.fail pm l .protocol := by
  unfold Port.takeLimit
  rw [known]
  exact if_neg outside

theorem Port.hear_positioned {x : Port} (positioned : x.positioned) (hello : Bool) : (x.hear hello).positioned :=
  positioned

/-- The header of a good frame whose ack removes nothing and whose limit is in range (R142). -/
theorem Port.takeHeader_oldest {x : Port} {limit : Credit} {depth : Nat} (pm : Params) (l : Link)
    (positioned : x.positioned) (up : x.state = .up) (known : x.partnerDepth = some depth)
    (range : (limit - x.sentCount).toNat ≤ depth) : x.takeHeader pm l x.oldest limit = x.heardLimit limit := by
  have ack : (x.hear false).takeAck pm l x.oldest = x.hear false := by
    have oldest : (x.hear false).oldest = x.oldest := rfl
    rw [Port.takeAck, if_pos (by simp [oldest])]
    exact Port.removeBefore_oldest (Port.hear_positioned positioned false)
  have hearing : (x.hear false).state = .up := up
  rw [Port.takeHeader, ack]
  simp only [hearing, if_true]
  exact (Port.takeLimit_inRange (x := x.hear false) pm l known range).trans (by simp [Port.hear, Port.heardLimit])

/-! ### DATA -/

/-- Settles O40: after its header, the frame is classified by its number. -/
theorem acceptingReceiverClassifiesData : Obligations.AcceptingReceiverClassifiesData := by
  intro s p m limit msg depth x positioned up fits known range y
  have runs : exec (.receiveData p m x.oldest limit msg) s =
      .next (s.modPort p (Port.receiveData s.mgmt.params p m x.oldest limit msg)) := by
    have arm : exec (.receiveData p m x.oldest limit msg) s = execReceiveData p m x.oldest limit msg s := rfl
    have good : msg.fitsFrame = true := decide_eq_true fits
    rw [arm, execReceiveData, if_pos good]
  refine ⟨_, runs, portFrame_modPort _ _ _, ?_⟩
  have header := Port.takeHeader_oldest s.mgmt.params p positioned up known range
  have still : (x.heardLimit limit).state = .up := up
  have port : (s.port p).receiveData s.mgmt.params p m x.oldest limit msg =
      (x.heardLimit limit).classifyData s.mgmt.params p m msg := by
    show x.receiveData s.mgmt.params p m x.oldest limit msg = _
    simp only [Port.receiveData, up, if_true, header, still]
  rw [State.port_modPort_self, port]
  have classify : (x.heardLimit limit).classifyData s.mgmt.params p m msg =
      if x.discarding then y
      else if m = x.expected then
        if 16 ≤ x.rxBuffer.length then y.fail s.mgmt.params p .protocol
        else { y with rxBuffer := x.rxBuffer ++ [msg], expected := x.expected + 1 }.count p .framesAccepted
      else if (x.expected - m).toNat ≤ 24 then y.count p .duplicatesDropped
      else (y.count p .sequenceErrors).enterDiscarding s.mgmt.params := rfl
  rw [classify]
  split
  case isTrue => rfl
  case isFalse =>
    split
    case isTrue =>
      by_cases room : x.rxBuffer.length < 16
      · rw [if_pos room, if_neg (by omega)]; rfl
      · rw [if_neg room, if_pos (by omega)]; exact ⟨rfl, rfl⟩
    case isFalse => split <;> rfl

/-! ### IDLE -/

/-- Settles O41: the ack is taken first, and the limit where the ack was valid. -/
theorem receivedAckAndLimitAreTaken : Obligations.ReceivedAckAndLimitAreTaken := by
  intro s p a limit depth x up known n
  refine ⟨_, rfl, portFrame_modPort _ _ _, ?_⟩
  have port : (s.port p).receiveIdle s.mgmt.params p a limit = x.takeHeader s.mgmt.params p a limit := if_pos up
  rw [State.port_modPort_self, port]
  have hearing : (x.hear false).state = .up := up
  by_cases valid : n ≤ x.replay.length
  · have ack : (x.hear false).takeAck s.mgmt.params p a = (x.hear false).removeBefore a := if_pos valid
    rw [Port.takeHeader, ack]
    simp only [Port.removeBefore_state, hearing, if_true]
    have known : ((x.hear false).removeBefore a).partnerDepth = some depth := by
      rw [Port.removeBefore_eq]; exact known
    have sent : ((x.hear false).removeBefore a).sentCount = x.sentCount := by rw [Port.removeBefore_eq]; rfl
    by_cases range : (limit - x.sentCount).toNat ≤ depth
    · rw [if_pos ⟨valid, range⟩, Port.takeLimit_inRange _ _ known (by rw [sent]; exact range), Port.removeBefore_eq]
      exact ⟨up, rfl, rfl, rfl, by simp [Port.hear], rfl, rfl, rfl, rfl, rfl, rfl⟩
    · rw [if_neg fun both => range both.2, Port.takeLimit_outside _ _ known (by rw [sent]; exact range), Port.fail_out,
        Port.removeBefore_eq]
      exact ⟨rfl, rfl, rfl⟩
  · have ack : (x.hear false).takeAck s.mgmt.params p a = (x.hear false).fail s.mgmt.params p .protocol := if_neg valid
    have failed : ¬ ((x.hear false).fail s.mgmt.params p .protocol).state = .up := by simp [Port.fail_state]
    rw [Port.takeHeader, ack, if_neg fun both => valid both.1]
    simp only [failed, if_false]
    exact ⟨rfl, rfl, rfl⟩

/-! ### REWIND and MARK -/

/-- Settles O42: REWIND's number is taken as an ack is, and MARK's is compared with the expected one. -/
theorem rewindAndMarkSteerRecovery : Obligations.RewindAndMarkSteerRecovery := by
  constructor
  · intro s p limit n depth x positioned up known range k y
    refine ⟨_, rfl, portFrame_modPort _ _ _, ?_⟩
    have still : (x.heardLimit limit).state = .up := up
    have port : (s.port p).receiveRewind s.mgmt.params p x.oldest limit n = (x.heardLimit limit).takeRewind p n := by
      show x.receiveRewind s.mgmt.params p x.oldest limit n = _
      simp only [Port.receiveRewind, up, if_true, Port.takeHeader_oldest s.mgmt.params p positioned up known range,
        still]
    rw [State.port_modPort_self, port]
    by_cases valid : k ≤ x.replay.length
    · have within : (n - (x.heardLimit limit).oldest).toNat ≤ (x.heardLimit limit).replay.length := valid
      have allGone : x.replay.drop k = [] ↔ x.replay.length = k := by rw [List.drop_eq_nil_iff]; omega
      rw [Port.takeRewind, if_pos within, if_pos valid, Port.removeBefore_eq]
      show _ = { y with
        replay := x.replay.drop k, markDue := some n, replayPos := if x.replay.length = k then none else some n,
        noticeAcks := x.noticeAcks ++ noticesOf (x.replay.take k),
        resetAck := x.resetAck || okResetReplyIn (x.replay.take k), out := x.out ++ [Report.stat p .replaysStarted] }
      simp only [← allGone]
      rfl
    · exact (if_neg valid).trans (if_neg valid).symm
  · intro s p limit n depth x positioned up known range y
    refine ⟨_, rfl, portFrame_modPort _ _ _, ?_⟩
    have still : (x.heardLimit limit).state = .up := up
    have port : (s.port p).receiveMark s.mgmt.params p x.oldest limit n = (x.heardLimit limit).takeMark n := by
      show x.receiveMark s.mgmt.params p x.oldest limit n = _
      simp only [Port.receiveMark, up, if_true, Port.takeHeader_oldest s.mgmt.params p positioned up known range, still]
    rw [State.port_modPort_self, port]
    rfl

/-! ### Rejected frames -/

/-- Settles O43: the count and the entry to DISCARDING, by the port's state. -/
theorem rejectedFrameStartsRecovery : Obligations.RejectedFrameStartsRecovery := by
  intro s p x
  refine ⟨_, rfl, portFrame_modPort _ _ _, ?_⟩
  rw [State.port_modPort_self]
  show x.rejectFrame s.mgmt.params p = _
  unfold Port.rejectFrame
  split
  case h_1 greeting => simp [greeting, Port.count, Port.report]
  case h_2 up =>
    cases discarding : x.discarding <;> simp [up, discarding, Port.count, Port.report, Port.enterDiscarding]
  case h_3 notGreeting notUp => simp [show ¬ x.state = .greeting from notGreeting, show ¬ x.state = .up from notUp]

/-! ### HELLO -/

theorem Port.offerHello_helloDue (epoch : BitVec 16) (x : Port) :
    (x.offerHello epoch).helloDue = x.inProgress.isSome := by
  unfold Port.offerHello
  cases lane : x.inProgress <;> rfl

theorem Port.offerHello_inProgress (epoch : BitVec 16) (x : Port) :
    (x.offerHello epoch).inProgress = some (x.inProgress.getD (.hello (x.helloNow epoch))) := by
  unfold Port.offerHello
  cases lane : x.inProgress with
  | none => rfl
  | some f => rfl

/-- The idle timer runs on behind a frame in progress, and starts afresh where the HELLO is sent at once (R147). -/
theorem Port.offerHello_idleTimer (epoch : BitVec 16) (x : Port) :
    (x.offerHello epoch).idleTimer =
      if x.inProgress = none ∧ x.state = .up then some Config.idleTicks else x.idleTimer := by
  unfold Port.offerHello
  cases lane : x.inProgress with
  | none => simp [Port.sendHello, Port.launch]
  | some f => simp

theorem helloValid_iff (h : Hello) :
    helloValid h = true ↔ h.role = false ∧ h.revision = 1 ∧ 1 ≤ h.depth.toNat ∧ h.depth.toNat ≤ 16 := by
  simp [helloValid, and_assoc]

/-- Before a port comes UP there is nothing to settle where no failure report is outstanding. -/
theorem settleFailure_none {s : State} {p : Link} (dispatcher : (s.port p).failDispatcher = false)
    (engine : (s.port p).failEngine = false) (notices : (s.port p).failNotices = false) : settleFailure p s = s := by
  have first : takeFailureAtDispatcher p s = s := if_neg (by simp [dispatcher])
  have second : takeFailureAtEngine p s = s := if_neg (by simp [engine])
  have third : takeFailureAtNotices p s = s := if_neg (by simp [notices])
  rw [settleFailure, first, second, third]

/-- Settles O44: a valid HELLO with the seen flag brings the port UP with nothing to settle, and a HELLO at a port that
is UP is told by its seen flag. -/
theorem helloGreetsOrFails : Obligations.HelloGreetsOrFails := by
  intro s p h x valid
  have arm : exec (.receiveHello p h) s = .next (receiveHello p h s) := rfl
  refine ⟨fun greeting dispatcher engine notices => ?_, fun up => ?_⟩
  · have known : (s.port p).state = .greeting := greeting
    by_cases good : valid
    · have accepted := (helloValid_iff h).mpr good
      cases seen : h.seen
      · have runs : receiveHello p h s = s.modPort p (Port.helloSeen h) := by
          simp [receiveHello, known, accepted, seen]
        refine ⟨_, arm.trans (congrArg _ runs), portFrame_modPort _ _ _, fun bad => absurd good bad, fun _ _ => ?_,
          nofun⟩
        rw [State.port_modPort_self]
        rfl
      · have runs : receiveHello p h s = s.modPort p (Port.comeUp s.mgmt.epoch p h.depth.toNat) := by
          simp [receiveHello, known, accepted, seen, settleFailure_none dispatcher engine notices]
        refine ⟨_, arm.trans (congrArg _ runs), portFrame_modPort _ _ _, fun bad => absurd good bad, nofun,
          fun _ _ => ?_⟩
        obtain ⟨_, _, _, high⟩ := good
        rw [State.port_modPort_self]
        show (x.comeUp s.mgmt.epoch p h.depth.toNat).state = _ ∧ _
        simp [Port.comeUp, Port.report, Port.resetRecovery, Port.offerHello_helloDue, Port.offerHello_inProgress,
          Port.offerHello_idleTimer, Port.helloNow, Config.idleTicks]
        exact ⟨by omega, rfl, rfl, rfl⟩
    · have runs : receiveHello p h s = s := by
        simp [receiveHello, known, mt (helloValid_iff h).mp good]
      refine ⟨_, arm.trans (congrArg _ runs), ⟨fun _ _ => rfl, rfl, rfl, rfl, rfl, rfl, rfl, rfl⟩, fun _ => rfl,
        fun right => absurd right good, fun right => absurd right good⟩
  · have known : (s.port p).state = .up := up
    have runs : receiveHello p h s = s.modPort p (Port.helloWhileUp s.mgmt.params p h) := by
      simp [receiveHello, known]
    refine ⟨_, arm.trans (congrArg _ runs), portFrame_modPort _ _ _, ?_⟩
    have told : x.helloWhileUp s.mgmt.params p h =
        if h.seen = true ∧ x.partnerHeard = false then x.hear true
        else (x.hear true).fail s.mgmt.params p .partnerRestart := by
      simp [Port.helloWhileUp]
    rw [State.port_modPort_self]
    show if _ then x.helloWhileUp s.mgmt.params p h = _ else
      (x.helloWhileUp s.mgmt.params p h).state = _ ∧ (x.helloWhileUp s.mgmt.params p h).out = _
    rw [told]
    split
    case isTrue => simp [Port.hear]
    case isFalse => exact ⟨rfl, rfl⟩

end Sys2Proof.Machine
end

/-! What a sender selects (R110, R131, R145 to R150, R159 to R164, R174): its choice by precedence, the frames it
builds, and from that the statements O45 and O46. -/

section
namespace Sys2Proof.Machine

/-! ### The selection -/

/-- The port when its frame in progress has ended. -/
def Port.laneIdle (x : Port) : Port := { x with inProgress := none }

theorem selectNext_eq (p : Link) (s : State) :
    selectNext p s = perform p (s.modPort p Port.laneIdle) (choose p (s.modPort p Port.laneIdle)) := rfl

/-- The choice does not depend on the frame in progress. -/
theorem choose_laneIdle (p : Link) (s : State) : choose p (s.modPort p Port.laneIdle) = choose p s := by
  have port : (s.modPort p Port.laneIdle).port p = (s.port p).laneIdle := State.port_modPort_self _ _ _
  have new : chooseNew p (s.modPort p Port.laneIdle) = chooseNew p s := by
    unfold chooseNew
    rw [port]
    rfl
  unfold choose chooseUp
  rw [new, port]
  rfl

/-- Two writes of one port are one. -/
theorem State.modPort_modPort (s : State) (p : Link) (f g : Port → Port) :
    (s.modPort p f).modPort p g = s.modPort p fun x => g (f x) := by
  have table : tableSet (tableSet s.ports p (f (s.port p))) p (g ((s.modPort p f).port p)) =
      tableSet s.ports p (g (f (s.port p))) := by
    rw [State.port_modPort_self, tableSet_twice]
  show ({ s with ports := _ } : State) = { s with ports := _ }
  exact congrArg (fun ports => ({ s with ports := ports } : State)) table

/-- A selection whose choice is sent by a write of its port alone. -/
theorem exec_selectNextFrame_port {p : Link} {s : State} {choice : Choice} (f : Port → Port) {y : Port}
    (chosen : choose p s = choice)
    (sends : perform p (s.modPort p Port.laneIdle) choice = (s.modPort p Port.laneIdle).modPort p f)
    (sent : f (s.port p).laneIdle = y) :
    ∃ t, exec (.selectNextFrame p) s = .next t ∧ portFrame p s t ∧ t.port p = y := by
  have runs : exec (.selectNextFrame p) s = .next (s.modPort p fun x => f x.laneIdle) := by
    have arm : exec (.selectNextFrame p) s = .next (selectNext p s) := rfl
    rw [arm, selectNext_eq, choose_laneIdle, chosen, sends, State.modPort_modPort]
  exact ⟨_, runs, portFrame_modPort _ _ _, (State.port_modPort_self _ _ _).trans sent⟩

/-! ### The choice -/

section
variable {p : Link} {s : State}

theorem choose_up (up : (s.port p).state = .up) : choose p s = chooseUp p s := by simp [choose, up]

theorem choose_hello (up : (s.port p).state = .up) (hello : (s.port p).helloDue = true) : choose p s = .hello := by
  simp [choose_up up, chooseUp, hello]

theorem choose_rewind (up : (s.port p).state = .up) (hello : (s.port p).helloDue = false)
    (rewind : (s.port p).rewindDue = true) : choose p s = .rewind := by
  simp [choose_up up, chooseUp, hello, rewind]

theorem choose_mark {n : FrameNum} (up : (s.port p).state = .up) (hello : (s.port p).helloDue = false)
    (rewind : (s.port p).rewindDue = false) (mark : (s.port p).markDue = some n) : choose p s = .mark n := by
  simp [choose_up up, chooseUp, hello, rewind, mark]

theorem choose_replay {pos : FrameNum} {e : ReplayEntry} (up : (s.port p).state = .up)
    (hello : (s.port p).helloDue = false) (rewind : (s.port p).rewindDue = false) (mark : (s.port p).markDue = none)
    (replay : (s.port p).replayPos = some pos)
    (entry : (s.port p).replay[(pos - (s.port p).oldest).toNat]? = some e) : choose p s = .replay e := by
  have read : (s.port p).replayEntry? = some e := by simp only [Port.replayEntry?, replay, entry]
  simp [choose_up up, chooseUp, hello, rewind, mark, read]

/-- With no control frame due and no replay, the sender sends new DATA, an IDLE or nothing (R149). -/
theorem choose_new (up : (s.port p).state = .up) (hello : (s.port p).helloDue = false)
    (rewind : (s.port p).rewindDue = false) (mark : (s.port p).markDue = none) (replay : (s.port p).replayPos = none) :
    choose p s = (chooseNew p s).getD (if (s.port p).idleDue then .idle else .nothing) := by
  have read : (s.port p).replayEntry? = none := by simp only [Port.replayEntry?, replay]
  simp [choose_up up, chooseUp, hello, rewind, mark, read]

end

theorem headReply?_none {p : Link} {s : State} (silent : ∀ k reply, ¬ replyReady s p k reply) :
    (s.disp p).headReply? = none :=
  Option.eq_none_iff_forall_ne_some.mpr fun ⟨k, reply⟩ head => silent k reply ((headReply?_iff s p k reply).mp head)

theorem eligible?_none {p : Link} {s : State} {j : SessIx} (silent : ∀ g n, ¬ noticeReady s p j g n) :
    (s.coord.box j).eligible? p = none :=
  Option.eq_none_iff_forall_ne_some.mpr fun ⟨g, n⟩ head => silent g n ((eligible?_iff s p j g n).mp head)

/-- The rotation of the sessions after the last served one is in its cyclic order (R150). -/
theorem sessionsAfter_sorted (last : SessIx) :
    (sessionsAfter last).Pairwise fun i j => (i - last - 1).val < (j - last - 1).val := by
  have place (k : SessIx) : last + 1 + k - last - 1 = k := by
    simp only [Fin.ext_iff, Fin.val_sub, Fin.val_add]
    omega
  rw [sessionsAfter, List.pairwise_map]
  simp only [place]
  exact List.pairwise_lt_finRange 32

theorem mem_sessionsAfter (last j : SessIx) : j ∈ sessionsAfter last := by
  refine List.mem_map.mpr ⟨j - last - 1, mem_indices _, ?_⟩
  simp only [Fin.ext_iff, Fin.val_sub, Fin.val_add]
  omega

/-- The rotation hands over the notice of the first session that has an eligible one (R150). -/
theorem nextNotice?_first {p : Link} {s : State} {j : SessIx} {g : Byte} {n : Notice} {last : SessIx}
    (ready : noticeReady s p j g n)
    (first : ∀ i : SessIx, (i - last - 1).val < (j - last - 1).val → ∀ g' n', ¬ noticeReady s p i g' n') :
    nextNotice? p last s.coord = some (j, g, n) := by
  unfold nextNotice?
  rw [findSome?_ordered (fun a b => Nat.lt_asymm) (sessionsAfter_sorted last)]
  refine ⟨j, mem_sessionsAfter last j, ?_, fun i _ earlier => ?_⟩
  · rw [(eligible?_iff s p j g n).mpr ready]; rfl
  · rw [eligible?_none (first i earlier)]; rfl

theorem nextNotice?_none {p : Link} {s : State} {last : SessIx} (silent : ∀ j g n, ¬ noticeReady s p j g n) :
    nextNotice? p last s.coord = none := by
  unfold nextNotice?
  rw [List.findSome?_eq_none_iff]
  intro j _
  rw [eligible?_none (silent j)]
  rfl

theorem nextAlert?_none {p : Link} {m : Mgmt} (silent : m.params.mgmtLink = p.val → m.alerts = []) :
    nextAlert? p m = none := by
  unfold nextAlert?
  split
  case isTrue here => rw [silent here]; rfl
  case isFalse => rfl

/-- No new DATA is chosen where none may be sent or nothing waits (R145, R146, R149). -/
theorem chooseNew_none {p : Link} {s : State}
    (barred : (s.port p).replay.length = 24 ∨ (s.port p).credit = 0 ∨ nothingReady s p) : chooseNew p s = none := by
  unfold chooseNew
  split
  case isFalse => rfl
  case isTrue may =>
    obtain ⟨room, credit, _⟩ := (Port.mayNew_iff _).mp may
    obtain ⟨reply, alert, notice⟩ : nothingReady s p := by
      rcases barred with full | broke | ready
      · omega
      · omega
      · exact ready
    simp only [headReply?_none reply, nextAlert?_none alert, nextNotice?_none notice, Option.map_none]

/-! ### Control frames, replays and IDLE -/

/-- Every frame sent in UP restarts the idle timer (R147). -/
theorem Port.launch_up {x : Port} (up : x.state = .up) (f : Frame) :
    x.launch f = { x with inProgress := some f, idleTimer := some 5 } := by
  rw [Port.launch, if_pos up]
  rfl

/-- A frame with ack and limit that is sent in UP (R144, R146, R147). -/
theorem Port.launchWith_up {x : Port} (up : x.state = .up) (f : FrameNum → Credit → Frame) :
    x.launchWith f =
      { x with lastAdvertised := some (x.expected, x.taken + 16), idleTimer := some 5,
               inProgress := some (f x.expected (x.taken + 16)) } :=
  Port.launch_up (x := { x with lastAdvertised := some x.advertNow }) up _

/-- Settles O45: each choice is sent by a write of the port. -/
theorem senderSelectsControlFirst : Obligations.SenderSelectsControlFirst := by
  intro s p x up
  refine ⟨fun hello => ?_, fun hello => ⟨fun rewind => ?_, fun n rewind mark => ?_,
    fun pos e rewind mark replay entry => ?_, fun rewind mark replay barred => ?_⟩⟩
  · exact exec_selectNextFrame_port (Port.sendHello s.mgmt.epoch) (choose_hello up hello) rfl
      (Port.launch_up (x := { x.laneIdle with helloDue := false }) up _)
  · exact exec_selectNextFrame_port (Port.sendRewind p) (choose_rewind up hello rewind) rfl
      (congrArg (·.count p .rewindsSent) (Port.launchWith_up (x := { x.laneIdle with rewindDue := false }) up _))
  · exact exec_selectNextFrame_port (Port.sendMark n) (choose_mark up hello rewind mark) rfl
      (Port.launchWith_up (x := { x.laneIdle with markDue := none }) up _)
  · exact exec_selectNextFrame_port (Port.sendReplay e) (choose_replay up hello rewind mark replay entry) rfl
      (Port.launchWith_up (x := { x.laneIdle with
        replayPos := if e.num + 1 = x.nextNum then none else some (e.num + 1) }) up _)
  · have choice : choose p s = if x.idleDue then .idle else .nothing := by
      rw [choose_new up hello rewind mark replay, chooseNew_none barred]
      rfl
    have due : x.idleDue = true ↔ x.lastAdvertised ≠ some (x.expected, x.taken + 16) ∨ x.idleTimer = some 0 := by
      simp only [Port.idleDue, Port.advertNow, Port.limitNow, Bool.or_eq_true, bne_iff_ne, beq_iff_eq]
    refine ⟨fun changed => ⟨?_, fun expired lane => ?_⟩, fun same running => ?_⟩
    · rw [if_pos (due.mpr changed)] at choice
      exact exec_selectNextFrame_port Port.sendIdle choice rfl (Port.launchWith_up (x := x.laneIdle) up _)
    · rw [if_pos (due.mpr changed)] at choice
      have runs : exec (.idleTimerExpiry p) s = .next (s.modPort p Port.sendIdle) := by
        have arm : exec (.idleTimerExpiry p) s = .next (idleExpiry p s) := rfl
        have held : (s.port p).state = .up ∧ (s.port p).idleTimer = some 0 ∧ (s.port p).inProgress = none ∧
            choose p s = .idle := ⟨up, expired, lane, choice⟩
        rw [arm, idleExpiry, if_pos held]
      exact ⟨_, runs, portFrame_modPort _ _ _,
        (State.port_modPort_self _ _ _).trans (Port.launchWith_up (x := x) up _)⟩
    · have calm : ¬ x.idleDue = true := mt due.mp (by simp [same, running])
      rw [if_neg calm] at choice
      refine exec_selectNextFrame_port id choice ?_ rfl
      exact (State.modPort_same rfl).symm

/-! ### New DATA -/

/-- The port after it has sent a new DATA frame of message `m` (R145). -/
def Port.sentNew (x : Port) (m : Message) (load : Carried) : Port :=
  { x with
    nextNum := x.nextNum + 1, sentCount := x.sentCount + 1, replay := x.replay ++ [⟨x.nextNum, m, load⟩],
    idleTimer := some 5, lastAdvertised := some (x.expected, x.taken + 16),
    inProgress := some (.data x.nextNum x.expected (x.taken + 16) m) }

theorem Port.sendNew_up {x : Port} (up : x.state = .up) (load : Carried) (m : Message) :
    x.laneIdle.sendNew load m = x.sentNew m load :=
  Port.launchWith_up (x := x.laneIdle.appendNew load m) up _

theorem State.modPort_congr {s : State} {p : Link} {f g : Port → Port} (same : f (s.port p) = g (s.port p)) :
    s.modPort p f = s.modPort p g := by
  unfold State.modPort
  rw [same]

/-- The oldest UNSENT notice becomes SENT (R111). -/
theorem markOldest_append (before after : List Notice) (n : Notice) (sent : ∀ m ∈ before, m.sent = true)
    (unsent : n.sent = false) : markOldest (before ++ n :: after) = before ++ { n with sent := true } :: after := by
  induction before with
  | nil => simp [markOldest, unsent]
  | cons m before ih =>
    have head : m.sent = true := sent m (by simp)
    simp [markOldest, head, ih fun k member => sent k (by simp [member])]

/-! ### Replies -/

theorem Dispatcher.freeSlot?_isNone (d : Dispatcher) :
    d.freeSlot?.isNone = true ↔ ∀ n, (d.slot n).body ≠ .free := by
  simp [Dispatcher.freeSlot?, Option.isNone_iff_eq_none, List.find?_eq_none]

/-- The state after the head reply has been sent and its slot freed (R131). -/
def replySent (p : Link) (k : SlotIx) (r : Reply) (s : State) : State :=
  (s.modPort p fun x => x.sentNew r.message (.reply r.code)).modDisp p
    fun d => { d with queue := d.queue.tail }.freeSlot p k

/-- The head reply is sent, and a request held for want of a FREE slot is taken into the freed one (R122, R131). -/
theorem handOver_up {p : Link} {s : State} (up : (s.port p).state = .up) (k : SlotIx) (r : Reply) :
    handOver p k r (s.modPort p Port.laneIdle) =
      if (s.disp p).freeSlot?.isNone then takeHeadRequest p (replySent p k r s) else replySent p k r s := by
  have sent : (s.modPort p Port.laneIdle).modPort p (Port.sendNew (.reply r.code) r.message) =
      s.modPort p fun x => x.sentNew r.message (.reply r.code) := by
    rw [State.modPort_modPort]
    exact State.modPort_congr (Port.sendNew_up up _ _)
  unfold handOver replySent
  simp only [sent]
  rfl

section
variable (p : Link) (k : SlotIx) (r : Reply) (s : State)

theorem port_replySent (q : Link) : (replySent p k r s).port q =
    if p = q then (s.port p).sentNew r.message (.reply r.code) else s.port q := by
  simp [replySent]

theorem disp_replySent :
    (replySent p k r s).disp p = { s.disp p with queue := (s.disp p).queue.tail }.freeSlot p k := by
  simp [replySent]

theorem otherDisp_replySent {q : Link} (other : q ≠ p) : (replySent p k r s).disp q = s.disp q := by
  simp [replySent, Ne.symm other]

theorem slot_replySent (n : SlotIx) : ((replySent p k r s).disp p).slot n =
    if k = n then ⟨((s.disp p).slot n).occupancy, .free⟩ else (s.disp p).slot n := by
  rw [disp_replySent, Dispatcher.slot_freeSlot]
  rfl

end

/-- Nothing is taken while a reset is pending, nor where no REQUEST stands at the head of the receive buffer (R121,
R134). -/
theorem takeHeadRequest_nothing {p : Link} {s : State}
    (nothing : s.mgmt.reset.isSome = true ∨ ∀ m ms, (s.port p).rxBuffer = m :: ms → m.kind ≠ kindRequest) :
    takeHeadRequest p s = s := by
  unfold takeHeadRequest
  split
  case isFalse => rfl
  case isTrue may =>
    split
    case h_2 => rfl
    case h_1 m ms k head slot =>
      rcases nothing with pending | other
      · simp [mayTake, Option.isSome_iff_ne_none.mp pending] at may
      · exact if_neg (other m ms head)

/-! ### Alerts and notices -/

/-- Settles O46: the choice, and then what its frame and its source become. -/
theorem senderSelectsReplyThenAlertThenNotice : Obligations.SenderSelectsReplyThenAlertThenNotice := by
  intro s p depth x sent up hello rewind mark replay known room credit range
  have may : (s.port p).mayNew = true := (Port.mayNew_iff _).mpr ⟨room, credit, by
    have : (s.port p).partnerDepth = some depth := known
    rw [this]
    exact range⟩
  have chosen {choice : Choice} (new : chooseNew p s = some choice) : exec (.selectNextFrame p) s =
      .next (perform p (s.modPort p Port.laneIdle) choice) := by
    have arm : exec (.selectNextFrame p) s = .next (selectNext p s) := rfl
    rw [arm, selectNext_eq, choose_laneIdle, choose_new up hello rewind mark replay, new]
    rfl
  refine ⟨fun k rest reply queue body => ?_, fun silent => ⟨fun a rest here alerts => ?_,
    fun j g n noAlert ready first => ?_⟩⟩
  · have head : (s.disp p).headReply? = some (k, reply) := (headReply?_iff s p k reply).mpr ⟨⟨rest, queue⟩, body⟩
    have runs := chosen (choice := .reply k reply) (by simp only [chooseNew, may, if_true, head])
    change _ = Host.Outcome.next (handOver p k reply (s.modPort p Port.laneIdle)) at runs
    rw [handOver_up up] at runs
    have queue' : ((replySent p k reply s).disp p).queue = rest := by
      rw [disp_replySent, queue]; rfl
    have freed : ((replySent p k reply s).disp p).freed =
        (s.disp p).freed ++ [⟨p, k, ((s.disp p).slot k).occupancy⟩] := by
      rw [disp_replySent]; rfl
    refine ⟨fun nothing => ?_, fun m ms full none buffer kind => ?_⟩
    · have stays : (if (s.disp p).freeSlot?.isNone then takeHeadRequest p (replySent p k reply s)
          else replySent p k reply s) = replySent p k reply s := by
        split
        case isFalse => rfl
        case isTrue full =>
          refine takeHeadRequest_nothing ?_
          rcases nothing with ⟨n, free⟩ | rest
          · exact absurd free ((Dispatcher.freeSlot?_isNone _).mp full n)
          · rw [port_replySent, if_pos rfl]
            exact rest
      rw [stays] at runs
      refine ⟨_, runs, ?_, fun q diff => ?_, queue', ?_, fun n diff => ?_, freed,
        fun q diff => otherDisp_replySent _ _ _ _ diff, rfl, rfl⟩
      · rw [port_replySent, if_pos rfl]; rfl
      · rw [port_replySent, if_neg (Ne.symm diff)]
      · rw [slot_replySent, if_pos rfl]
      · rw [slot_replySent, if_neg (Ne.symm diff)]
    · have slot : ((replySent p k reply s).disp p).freeSlot? = some k := by
        refine Dispatcher.freeSlot?_lowest _ k (by rw [slot_replySent, if_pos rfl]) fun n below => ?_
        rw [slot_replySent, if_neg (Ne.symm (Fin.ne_of_lt below))]
        exact full n
      have port : (replySent p k reply s).port p = (s.port p).sentNew reply.message (.reply reply.code) := by
        rw [port_replySent, if_pos rfl]
      have buffer' : ((replySent p k reply s).port p).rxBuffer = m :: ms := by rw [port]; exact buffer
      rw [if_pos ((Dispatcher.freeSlot?_isNone _).mpr full),
        takeHeadRequest_takes (s := replySent p k reply s) (by rw [port]; exact up) none buffer' kind slot] at runs
      obtain ⟨queue'', freed'', _⟩ := takeInto_rest p k m (replySent p k reply s)
      refine ⟨_, runs, ?_, fun q diff => ?_, queue''.trans (by rw [queue']), ?_, fun st fails => ?_,
        fun req passes => ?_, fun n diff => ?_, freed''.trans freed, fun q diff => ?_, rfl, rfl⟩
      · rw [takeInto_port, if_pos rfl, Port.takeHead_cons buffer', port]; rfl
      · rw [takeInto_port, if_neg (Ne.symm diff), port_replySent, if_neg (Ne.symm diff)]
      · rw [takeInto_slot, if_pos rfl, slot_replySent, if_pos rfl]
      · rw [takeInto_slot, if_pos rfl]; exact checkedSlot_error (s := replySent p k reply s) fails
      · rw [takeInto_slot, if_pos rfl]; exact checkedSlot_ok (s := replySent p k reply s) passes
      · rw [takeInto_slot, if_neg (Ne.symm diff), slot_replySent, if_neg (Ne.symm diff)]
      · rw [takeInto_otherDisp _ _ _ diff, otherDisp_replySent _ _ _ _ diff]
  · have alert : nextAlert? p s.mgmt = some a := by simp [nextAlert?, here, alerts]
    have runs := chosen (choice := .alert a) (by simp only [chooseNew, may, if_true, headReply?_none silent, alert])
    refine ⟨_, runs, ?_, fun q diff => ?_, ?_, rfl, rfl⟩
    · simp only [perform, sendAlert, State.port_modPort_self, State.port_setMgmt]
      exact Port.sendNew_up up _ _
    · simp [perform, sendAlert, Ne.symm diff]
    · simp [perform, sendAlert, alerts]
  · have notice := nextNotice?_first ready first
    have runs := chosen (choice := .notice j g n) (by
      simp only [chooseNew, may, if_true, headReply?_none silent, nextAlert?_none noAlert]
      exact congrArg (Option.map _) notice)
    obtain ⟨view, unsent, _, before, after, queue, sentBefore⟩ := ready
    refine ⟨_, runs, ?_, fun q diff => ?_, rfl, rfl, fun i diff => ?_, ?_, ⟨before, after, queue, sentBefore, ?_⟩, rfl,
      rfl, rfl⟩
    · simp only [perform, sendNotice, State.port_modPort_self, State.port_setCoord]
      exact Port.launchWith_up (x := ({ x.laneIdle with lastServed := j }.appendNew _ _)) up _
    · simp [perform, sendNotice, Ne.symm diff]
    · simp [perform, sendNotice, Ne.symm diff]
    · simp [perform, sendNotice]
    · simp [perform, sendNotice, queue, markOldest_append before after n sentBefore unsent]

end Sys2Proof.Machine
end

/-! The state after power-on, the resets of the part, the reports the management unit takes and the bodies of two
requests (R171 to R177, R186, R189), and from that the statements O49, O50, O52 and O60. -/

section
namespace Sys2Proof.Machine

/-! ### The state after power-on -/

theorem Coord.initial_obj (i : ObjIx) : Coord.initial.obj i = ⟨1, .free⟩ := by simp [Coord.obj, Coord.initial]
theorem Coord.initial_sess (j : SessIx) : Coord.initial.sess j = ⟨1, none⟩ := by simp [Coord.sess, Coord.initial]
theorem Coord.initial_wait (w : WaitIx) : Coord.initial.wait w = ⟨1, none⟩ := by simp [Coord.wait, Coord.initial]
theorem Coord.initial_box (j : SessIx) : Coord.initial.box j = ⟨none, []⟩ := by simp [Coord.box, Coord.initial]
theorem Dispatcher.initial_slot (k : SlotIx) : Dispatcher.initial.slot k = ⟨0, .free⟩ := by
  simp [Dispatcher.slot, Dispatcher.initial]
theorem Mgmt.initial_linkStats (cause : Cause) (l : Link) : (Mgmt.initial cause).linkStats[l] = {} := by
  simp [Mgmt.initial]
theorem State.initial_port (cause : Cause) (p : Link) : (State.initial cause).port p = Port.initial := by
  simp [State.port, State.initial]
theorem State.initial_disp (cause : Cause) (p : Link) : (State.initial cause).disp p = Dispatcher.initial := by
  simp [State.disp, State.initial]

/-- Settles O60: every entry of every table is the initial one. -/
theorem initialStateIsSound : Obligations.InitialStateIsSound := by
  unfold Obligations.InitialStateIsSound
  intro s
  have port (p : Link) : s.port p = Port.initial := State.initial_port _ p
  have disp (p : Link) : s.disp p = Dispatcher.initial := State.initial_disp _ p
  refine ⟨⟨Coord.initial_sound, Mgmt.initial_sound _, fun p => ?_⟩, Coord.initial_obj, Coord.initial_sess,
    Coord.initial_wait, Coord.initial_box, rfl, rfl, fun p => ?_, rfl, fun l => ?_, rfl, rfl, rfl, rfl, rfl, rfl, rfl,
    rfl, rfl, rfl, rfl, rfl, rfl, fun p => ?_⟩
  · rw [port, disp]
    exact ⟨Port.initial_sound, Dispatcher.initial_path _⟩
  · rw [disp]
    exact ⟨rfl, rfl, rfl, Dispatcher.initial_slot⟩
  · exact congrArg LinkStats.counters (Mgmt.initial_linkStats _ l)
  · rw [port]
    exact ⟨rfl, rfl, rfl, rfl, rfl, rfl, rfl, rfl, rfl, rfl, rfl, rfl, rfl, rfl, rfl, rfl, rfl, rfl, rfl, rfl⟩

/-! ### Power-on and RESET_N -/

/-- The part reset, whatever its cause (R186). -/
theorem partReset_port (cause : Cause) (s : State) (p : Link) :
    (partReset cause s).port p = (s.port p).afterReset 1 := by
  simp [State.port, partReset]

/-- Settles O49: but for its ports and the waiting commands the state is the initial one. -/
theorem partResetRestoresInitialState : Obligations.PartResetRestoresInitialState := by
  intro s done
  have all (cause : Cause) : done cause (partReset cause s) := by
    have disp (p : Link) : (partReset cause s).disp p = Dispatcher.initial := State.initial_disp cause p
    refine ⟨Coord.initial_obj, Coord.initial_sess, Coord.initial_wait, Coord.initial_box, rfl, rfl, fun p => ?_, rfl,
      fun l => congrArg LinkStats.counters (Mgmt.initial_linkStats cause l), rfl, rfl, rfl, rfl, rfl, rfl, rfl, rfl,
      rfl, rfl, rfl, rfl, fun p => ?_⟩
    · rw [disp]
      exact ⟨rfl, Dispatcher.initial_slot⟩
    · rw [partReset_port]
      unfold Port.afterReset
      cases (s.port p).laneReady <;> exact ⟨rfl, rfl, rfl, rfl, rfl, rfl, rfl, rfl, rfl, rfl, rfl⟩
  exact ⟨⟨_, rfl, all .powerOn⟩, ⟨_, rfl, all .pin⟩⟩

/-! ### The reports the management unit takes -/

theorem exec_managementReport_takes {s : State} {src : ReportSource} {r : Report} {rest : List Report}
    (oldest : s.reportsOf src = r :: rest) :
    exec (.managementReport src) s = .next ((s.setMgmt (s.mgmt.takeReport r)).setReports rest src) := by
  have arm : exec (.managementReport src) s = .next (takeReportFrom src s) := rfl
  rw [arm, takeReportFrom, oldest]

/-- An alert of an enabled kind joins a queue that has room (R174). -/
theorem Mgmt.raiseAlert_room {m : Mgmt} {a : Alert} (enabled : m.enabled a = true) (room : m.alerts.length < 8) :
    m.raiseAlert a = { m with alerts := m.alerts ++ [a] } := by
  rw [Mgmt.raiseAlert, if_pos enabled]
  exact if_pos room

/-- An alert of an enabled kind that finds the queue full is counted (R174). -/
theorem Mgmt.raiseAlert_full {m : Mgmt} {a : Alert} (enabled : m.enabled a = true) (full : 8 ≤ m.alerts.length) :
    m.raiseAlert a =
      { m with deviceStats := { m.deviceStats with alertsDropped := saturate m.deviceStats.alertsDropped } } := by
  rw [Mgmt.raiseAlert, if_pos enabled]
  exact if_neg (Nat.not_lt.mpr full)

theorem Mgmt.raiseAlert_masked {m : Mgmt} {a : Alert} (masked : m.enabled a = false) : m.raiseAlert a = m := by
  simp [Mgmt.raiseAlert, masked]

theorem Mgmt.raiseAlert_linkStats (a : Alert) (m : Mgmt) : (m.raiseAlert a).linkStats = m.linkStats := by
  unfold Mgmt.raiseAlert
  (repeat' split) <;> rfl

theorem saturate_below {n : Nat} (below : n < 4294967295) : saturate n = n + 1 := if_pos below

theorem Mgmt.bumpLink_same (m : Mgmt) (l : Link) (k : LinkStat) :
    (m.bumpLink l k).linkStats[l] = m.linkStats[l].bump k := by
  simp [Mgmt.bumpLink]

/-- Settles O50: the report taken acts on the management unit, and leaves its source. -/
theorem reportsCountAndRaiseAlerts : Obligations.ReportsCountAndRaiseAlerts := by
  refine ⟨fun s rest => ⟨fun h oldest mask room below => ?_, fun oldest => ?_⟩, ?_⟩
  · have taken : s.mgmt.takeReport (.recordFaulted h) = { s.mgmt with
        faultedCount := s.mgmt.faultedCount + 1, alerts := s.mgmt.alerts ++ [.recordFaulted h],
        deviceStats := { s.mgmt.deviceStats with recordsFaulted := s.mgmt.deviceStats.recordsFaulted + 1 } } := by
      refine (Mgmt.raiseAlert_room (m := { s.mgmt.bumpFaulted with faultedCount := s.mgmt.faultedCount + 1 })
        (a := .recordFaulted h) mask room).trans ?_
      simp [Mgmt.bumpFaulted, saturate_below below]
    refine ⟨_, exec_managementReport_takes (src := .engine) oldest, taken, ?_, rfl, rfl, rfl, rfl, rfl, rfl, rfl⟩
    simp [State.faultNLow, State.setReports, taken]
  · exact ⟨_, exec_managementReport_takes (src := .engine) oldest, rfl, rfl, rfl, rfl⟩
  · intro s p l why rest oldest failed below
    have counted : s.mgmt.takeReport (.linkFailed l why) =
        (s.mgmt.bumpLink l .failures).raiseAlert (.linkFailed l why) := by
      simp only [Mgmt.takeReport, if_neg failed]
    have mgmt : ((s.setMgmt (s.mgmt.takeReport (.linkFailed l why))).setReports rest (.port p)).mgmt =
        (s.mgmt.bumpLink l .failures).raiseAlert (.linkFailed l why) := counted
    refine ⟨_, exec_managementReport_takes (src := .port p) oldest, ?_, fun q other => ?_, rfl, rfl, ?_⟩
    · simp [State.setReports]
    · simp [State.setReports, Ne.symm other]
    · rw [mgmt]
      obtain ⟨params, _⟩ := Mgmt.raiseAlert_settings (.linkFailed l why) (s.mgmt.bumpLink l .failures)
      refine ⟨?_, params, fun mask => ?_, fun mask room => ?_, fun mask full dropped => ?_⟩
      · rw [Mgmt.raiseAlert_linkStats, Mgmt.bumpLink_same]
        exact saturate_below below
      · rw [Mgmt.raiseAlert_masked (a := .linkFailed l why) (m := s.mgmt.bumpLink l .failures) mask]
        exact ⟨rfl, rfl⟩
      · rw [Mgmt.raiseAlert_room (a := .linkFailed l why) (m := s.mgmt.bumpLink l .failures) mask room]
        exact ⟨rfl, rfl⟩
      · rw [Mgmt.raiseAlert_full (a := .linkFailed l why) (m := s.mgmt.bumpLink l .failures) mask full]
        exact ⟨rfl, saturate_below dropped⟩

/-! ### The bodies of ACQUIRE and AWAIT -/

theorem readU16_putU16 {n : Nat} (small : n < 65536) (rest : List Byte) :
    readU16 (putU16 n ++ rest) = some (n, rest) := by
  simp [readU16, putU16, byteOf]
  omega

theorem readU32_putU32 {n : Nat} (small : n < 4294967296) (rest : List Byte) :
    readU32 (putU32 n ++ rest) = some (n, rest) := by
  simp [readU32, putU32, byteOf]
  omega

theorem flagAt_flagBit (v : Bool) : flagAt (flagBit 0 v) 0 = v := by cases v <;> rfl

theorem flagAt_options (a b : Bool) :
    flagAt (flagBit 0 a ||| flagBit 1 b) 0 = a ∧ flagAt (flagBit 0 a ||| flagBit 1 b) 1 = b := by
  revert a b
  decide

/-- Settles O52: each reader takes back what its writer laid out. -/
theorem requestBodiesReadAsLaidOut : Obligations.RequestBodiesReadAsLaidOut := by
  intro h mode try_ take threshold d small small'
  obtain ⟨takes, tries⟩ := flagAt_options take try_
  have absent : flagAt 0#8 0 = false := rfl
  have present : flagAt 1#8 0 = true := rfl
  have deadline : readU16 (putU16 d) = some (d, []) := by simpa using readU16_putU16 small' []
  refine ⟨?_, ?_, ?_, ?_⟩
  · simp [parseRequest, flagsWithin, readHandle, readByte, readFlag, readIf, finish, putHandle, flagAt_flagBit, absent]
  · simp [parseRequest, flagsWithin, readHandle, readByte, readFlag, readIf, finish, putHandle, flagAt_flagBit, present,
      deadline]
  · simp [parseRequest, flagsWithin, readHandle, readByte, readIf, finish, putHandle, readU32_putU32 small, takes,
      tries, absent]
  · simp [parseRequest, flagsWithin, readHandle, readByte, readIf, finish, putHandle, readU32_putU32 small, takes,
      tries, present, deadline]

end Sys2Proof.Machine
end

/-! Frames as bytes on a lane (R142, R187, R188): each field is read back from its bytes, and from that the statement
O51. -/

section
namespace Sys2Proof.Machine

/-! ### The check code -/

/-- Four bytes tell one check code. -/
theorem checkBytes_injective {c d : BitVec 32} (same : checkBytes c = checkBytes d) : c = d := by
  simp only [checkBytes, List.cons.injEq, ← BitVec.toNat_inj, BitVec.toNat_setWidth, BitVec.toNat_ushiftRight,
    Nat.shiftRight_eq_div_pow] at same
  bv_omega

/-- The frame check of bytes that end in a check code (R142). -/
theorem checkFrame_append (body : List Byte) (c : BitVec 32) :
    checkFrame (body ++ checkBytes c) = if c = checkCode body then readFrame body else none := by
  have length : (body ++ checkBytes c).length - 4 = body.length := by simp [checkBytes]
  have codes : checkBytes c = checkBytes (checkCode body) ↔ c = checkCode body :=
    ⟨checkBytes_injective, congrArg checkBytes⟩
  unfold checkFrame
  simp only [length, List.take_left, List.drop_left, codes]

/-! ### Fields -/

theorem halfOf_halfBytes (v : BitVec 16) : halfOf (v.setWidth 8) ((v >>> 8).setWidth 8) = v := by
  ext i hi
  simp only [halfOf, BitVec.getElem_or, BitVec.getElem_setWidth, BitVec.getElem_shiftLeft, BitVec.getLsbD_setWidth,
    BitVec.getLsbD_ushiftRight]
  by_cases low : i < 8
  · simp [low, BitVec.getLsbD_eq_getElem hi]
  · have back : 8 + (i - 8) = i := by omega
    have high : i - 8 < 8 := by omega
    simp [low, back, high, BitVec.getLsbD_eq_getElem hi]

theorem readMessage_headerBytes (m : Message) : readMessage (headerBytes m ++ m.body) = some m := by
  simp [headerBytes, halfBytes, putHandle, readMessage, halfOf_halfBytes]

/-- The first byte of a HELLO names its kind and its revision (R187). -/
theorem helloFirst (revision : BitVec 4) :
    ((5 ||| (revision.setWidth 8 <<< 4) : Byte) &&& 0x0F).toNat = 5 ∧
      ((5 ||| (revision.setWidth 8 <<< 4) : Byte) >>> 4).setWidth 4 = revision := by
  revert revision
  decide

/-- The second byte of a HELLO holds its depth and its flags (R187). -/
theorem helloSecond (depth : BitVec 5) (seen role : Bool) :
    (depth.setWidth 8 ||| flagBit 5 seen ||| flagBit 6 role : Byte).setWidth 5 = depth ∧
      (depth.setWidth 8 ||| flagBit 5 seen ||| flagBit 6 role : Byte).getLsbD 5 = seen ∧
      (depth.setWidth 8 ||| flagBit 5 seen ||| flagBit 6 role : Byte).getLsbD 6 = role := by
  revert depth seen role
  decide

/-! ### Frames -/

/-- The bytes of a frame that fits, before their check code, are that frame (R187). -/
theorem readFrame_frameBody (f : Frame) (fits : ∀ num ack limit m, f = .data num ack limit m → m.body.length ≤ 48) :
    readFrame (frameBody f) = some f := by
  cases f with
  | data num ack limit m =>
    have length : (headerBytes m ++ m.body).length ≤ 8 + Config.maxBody := by
      have short := fits num ack limit m rfl
      simp [headerBytes, halfBytes, putHandle, Config.maxBody]
      omega
    have body : frameBody (.data num ack limit m) =
        1 :: num.setWidth 8 :: ack.setWidth 8 :: limit :: (headerBytes m ++ m.body) := by simp [frameBody]
    rw [body]
    show (if _ then (readMessage (headerBytes m ++ m.body)).map _ else none) = _
    rw [if_pos length, readMessage_headerBytes]
    simp
  | idle ack limit => simp [frameBody, readFrame]
  | rewind ack limit n => simp [frameBody, readFrame]
  | mark ack limit n => simp [frameBody, readFrame]
  | hello h =>
    obtain ⟨kind, revision⟩ := helloFirst h.revision
    obtain ⟨depth, seen, role⟩ := helloSecond h.depth h.seen h.role
    simp only [frameBody, halfBytes, List.cons_append, List.nil_append, readFrame, kind, revision, depth, seen, role,
      halfOf_halfBytes, if_true]

/-- Bytes that name no kind are no frame, whatever follows (R142). -/
theorem readFrame_unknown {b : Byte} (rest : List Byte) (unknown : b.toNat % 16 = 0 ∨ 5 < b.toNat % 16) :
    readFrame (b :: rest) = none := by
  have kind : (b &&& 0x0F).toNat = b.toNat % 16 := by
    rw [BitVec.toNat_and]
    exact Nat.and_two_pow_sub_one_eq_mod b.toNat 4
  unfold readFrame
  split
  case h_2 => rfl
  case h_1 cons =>
    obtain ⟨rfl, rfl⟩ := List.cons.inj cons
    rw [kind]
    split
    case h_6 => rfl
    all_goals omega

/-- Bytes that are no frame spell a rejected frame (R142). -/
theorem laneCommand_rejected {p : Link} {bs : List Byte} (bad : checkFrame bs = none) :
    laneCommand p bs = .rejectedFrame p := by
  simp [laneCommand, bad]

/-- Settles O51: the check code is appended and compared, and the fields are read back. -/
theorem laneBytesSpellTheirFrame : Obligations.LaneBytesSpellTheirFrame := by
  refine ⟨fun p f fits => ?_, fun p body c => ⟨fun wrong => ?_, fun b rest first unknown => ?_⟩⟩
  · have good : checkFrame (frameBytes f) = some f := by
      rw [frameBytes, checkFrame_append, if_pos rfl, readFrame_frameBody f fits]
    cases f <;> simp [laneCommand, good]
  · exact laneCommand_rejected (by rw [checkFrame_append, if_neg wrong])
  · refine laneCommand_rejected ?_
    rw [checkFrame_append, first, readFrame_unknown rest unknown, ite_self]

end Sys2Proof.Machine
end

/-! The performance of a DEVICE_RESET (R16, R42, R63, R81, R103, R135, R153, R184): what its drain of the reports leaves
alone, what it does to each block, and from that the statements O47 and O48. -/

section
namespace Sys2Proof.Machine

/-! ### The drain of the reports -/

/-- What the taking of reports leaves alone beside the management unit: the tables, the patrol, the waiting commands,
the state and the lane of each port, and the slots of each dispatcher. -/
def State.besideReports (s : State) :
    (Vector ObjEntry 256 × Vector SessEntry 32 × Vector WaitEntry 128) × (Patrol × List Instr) ×
      (Link → PortState × Bool) × (Link → Vector Slot 8) :=
  ((s.coord.objects, s.coord.sessions, s.coord.waits), (s.patrol, s.pending),
    fun p => ((s.port p).state, (s.port p).laneReady), fun p => (s.disp p).slots)

theorem drainFrom_besideReports (s : State) (src : ReportSource) :
    (drainFrom s src).besideReports = s.besideReports := by
  have same {α : Type} (p q : Link) (x y : α) (eq : x = y) : (if p = q then x else y) = y := by rw [eq, ite_self]
  cases src with
  | port p =>
    simp only [State.besideReports, drainFrom, State.setReports, State.port_modPort, State.port_setMgmt]
    refine congrArg (fun f => (_, _, f, _)) (funext fun q => ?_)
    split
    case isTrue same => rw [same]
    case isFalse => rfl
  | dispatcher p =>
    simp only [State.besideReports, drainFrom, State.setReports, State.disp_modDisp, State.disp_setMgmt]
    refine congrArg (fun f => (_, _, _, f)) (funext fun q => ?_)
    split
    case isTrue same => rw [same]
    case isFalse => rfl
  | engine => rfl
  | integrity => rfl

theorem drainReports_besideReports (s : State) : (drainReports s).besideReports = s.besideReports := by
  unfold drainReports
  generalize reportSources = srcs
  induction srcs generalizing s with
  | nil => rfl
  | cons src srcs ih => rw [List.foldl_cons, ih, drainFrom_besideReports]

/-! ### The tables without sessions -/

/-- No session is current and no wait is in use. -/
def Coord.cleared (c : Coord) : Prop := (∀ j, (c.sess j).body = none) ∧ ∀ w, (c.wait w).body = none

theorem Coord.clearSessions_sess (c : Coord) (j : SessIx) : c.clearSessions.sess j =
    ⟨if (c.sess j).body.isSome then advanceGen (c.sess j).gen else (c.sess j).gen, none⟩ := by
  have read : c.clearSessions.sess j = (c.sess j).reset := by simp [Coord.sess, Coord.clearSessions]
  rw [read]
  obtain ⟨gen, body⟩ := c.sess j
  cases body <;> rfl

theorem Coord.clearSessions_wait (c : Coord) (w : WaitIx) : c.clearSessions.wait w =
    ⟨if (c.wait w).body.isSome then advanceGen (c.wait w).gen else (c.wait w).gen, none⟩ := by
  have read : c.clearSessions.wait w = (c.wait w).reset := by simp [Coord.wait, Coord.clearSessions]
  rw [read]
  obtain ⟨gen, body⟩ := c.wait w
  cases body <;> rfl

theorem Coord.clearSessions_box (c : Coord) (j : SessIx) : c.clearSessions.box j = ⟨none, []⟩ := by
  simp [Coord.box, Coord.clearSessions]

theorem Coord.clearSessions_cleared (c : Coord) : c.clearSessions.cleared :=
  ⟨fun j => by rw [Coord.clearSessions_sess], fun w => by rw [Coord.clearSessions_wait]⟩

/-- The handling of an uncorrectable object record is the faulting of the object, with the same handling for the records
it meets in its turn (R180, R182). -/
theorem handler_obj : ∃ H : Handler, ∀ i c, handler (.obj i) c = faultObject H i c := by
  obtain ⟨n, depth⟩ : ∃ n, Config.faultDepth = n + 1 := ⟨_, rfl⟩
  unfold handler
  rw [depth]
  exact ⟨faultHandler _ n, fun _ _ => rfl⟩

/-- A session that is FREE has nothing revoked from it. -/
theorem revokeOne_free {H : Handler} {why : RemovalReason} {h : Handle} {j : SessIx} {n : Nat} {c : Coord}
    (free : (c.sess j).body = none) : revokeOne H why h j (n, c) = (n, c) := by
  have read : readSess H j c = (none, c) := by unfold readSess; rw [free]
  unfold revokeOne
  rw [read]

/-- The withdrawal of a wait from the object whose record has faulted (R43, R180). -/
def faultWithdraw (H : Handler) (h : Handle) (w : WaitIx) (c : Coord) : Coord :=
  if ((c.wait w).body.map (·.object)) = some h then (withdrawOne H .faulted w (0, c)).2 else c

/-- The revocation of the object whose record has faulted from a session (R43, R180). -/
def faultRevoke (H : Handler) (h : Handle) (j : SessIx) (c : Coord) : Coord := (revokeOne H .faulted h j (0, c)).2

theorem faultObject_eq (H : Handler) (i : ObjIx) (c : Coord) :
    faultObject H i c = scan (indices 32) (faultRevoke H (c.objHandle i)) (scan (indices 128)
      (faultWithdraw H (c.objHandle i)) ((c.setObjBody i .faulted).report (.recordFaulted (c.objHandle i)))) := rfl

theorem faultWithdraw_other {H : Handler} {h : Handle} {w : WaitIx} {c : Coord}
    (other : ∀ y, (c.wait w).body = some y → y.object ≠ h) : faultWithdraw H h w c = c := by
  refine if_neg fun same => ?_
  obtain ⟨y, body, object⟩ := Option.map_eq_some_iff.mp same
  exact other y body object

/-- Without sessions and waits the faulting of an object touches the object alone (R180). -/
theorem faultObject_cleared {c : Coord} (cleared : c.cleared) (H : Handler) (i : ObjIx) :
    faultObject H i c = (c.setObjBody i .faulted).report (.recordFaulted (c.objHandle i)) := by
  have sess (j : SessIx) : (((c.setObjBody i .faulted).report (.recordFaulted (c.objHandle i))).sess j).body = none :=
    cleared.1 j
  have wait (w : WaitIx) : (((c.setObjBody i .faulted).report (.recordFaulted (c.objHandle i))).wait w).body = none :=
    cleared.2 w
  rw [faultObject_eq]
  generalize (c.setObjBody i .faulted).report (.recordFaulted (c.objHandle i)) = u at sess wait
  rw [scan_nothing (fun w => faultWithdraw_other (by simp [wait])),
    scan_nothing (fun j => by rw [faultRevoke, revokeOne_free (sess j)])]

/-- The tables of the sessions: what the objects' reset leaves alone. -/
def Coord.sessionTables (c : Coord) : Vector SessEntry 32 × Vector WaitEntry 128 × Vector NoticeBox 32 :=
  (c.sessions, c.waits, c.boxes)

theorem Coord.cleared_of_tables {c u : Coord} (cleared : c.cleared) (same : u.sessionTables = c.sessionTables) :
    u.cleared := by
  simp only [Coord.sessionTables, Prod.mk.injEq] at same
  obtain ⟨sessions, waits, _⟩ := same
  exact ⟨fun j => by simpa [Coord.sess, sessions] using cleared.1 j,
    fun w => by simpa [Coord.wait, waits] using cleared.2 w⟩

theorem readObj_cleared {c : Coord} (cleared : c.cleared) (i : ObjIx) :
    (readObj handler i c).2.sessionTables = c.sessionTables := by
  obtain ⟨H, faults⟩ := handler_obj
  unfold readObj
  split
  case h_3 => rw [faults, faultObject_cleared cleared]; rfl
  all_goals rfl

theorem resetObject_cleared {c : Coord} (cleared : c.cleared) (i : ObjIx) :
    (resetObject i c).sessionTables = c.sessionTables := by
  have read := readObj_cleared cleared i
  unfold resetObject
  generalize readObj handler i c = out at read ⊢
  obtain ⟨record, u⟩ := out
  rcases record with _ | ⟨name, l | k⟩
  · exact read
  · simpa [Coord.sessionTables] using read
  · simpa [Coord.sessionTables] using read

/-- A DEVICE_RESET of either scope leaves the cleared tables of the sessions (R81, R103, R116). -/
theorem Coord.deviceReset_sessionTables (sc : Scope) (c : Coord) :
    (c.deviceReset sc).sessionTables = c.clearSessions.sessionTables := by
  cases sc with
  | all => rfl
  | sessions =>
    exact scan_invariant (inv := fun u => u.sessionTables = c.clearSessions.sessionTables)
      (fun i u same => (resetObject_cleared (Coord.cleared_of_tables c.clearSessions_cleared same) i).trans same)
      _ _ rfl

/-! ### The performance of a DEVICE_RESET -/

/-- A port after a DEVICE_RESET (R153). -/
theorem Port.deviceReset_fields (epoch : BitVec 16) (x : Port) :
    (x.deviceReset epoch).state = (if x.state = .off then .off else if x.laneReady then .greeting else .waiting) ∧
      (x.deviceReset epoch).rxBuffer = [] ∧ (x.deviceReset epoch).replay = [] ∧ (x.deviceReset epoch).seen = false ∧
      (x.deviceReset epoch).partnerHeard = false ∧ (x.deviceReset epoch).sentCount = 0 ∧
      (x.deviceReset epoch).taken = 0 ∧ (x.deviceReset epoch).nextNum = 0 ∧ (x.deviceReset epoch).expected = 0 ∧
      (x.deviceReset epoch).partnerLimit = 0 ∧ (x.deviceReset epoch).holdoffTimer = none ∧
      (x.deviceReset epoch).out = [] := by
  unfold Port.deviceReset Port.afterReset
  split
  · exact ⟨rfl, rfl, rfl, rfl, rfl, rfl, rfl, rfl, rfl, rfl, rfl, rfl⟩
  · cases x.laneReady <;> exact ⟨rfl, rfl, rfl, rfl, rfl, rfl, rfl, rfl, rfl, rfl, rfl, rfl⟩

theorem Dispatcher.deviceReset_slot (d : Dispatcher) (k : SlotIx) :
    d.deviceReset.slot k = ⟨(d.slot k).occupancy, .free⟩ := by
  simp [Dispatcher.slot, Dispatcher.deviceReset]

/-- The alert of the reset is the first entry of the emptied queue, subject to ALERT_MASK (R184). -/
theorem Mgmt.deviceReset_alerts (sc : Scope) (m : Mgmt) : (m.deviceReset sc).alerts =
    if m.params.alertMask.testBit 5 then [.deviceReset sc (advanceEpoch m.epoch)] else [] := by
  have mask : (m.clearedBy sc).enabled (.deviceReset sc (advanceEpoch m.epoch)) = m.params.alertMask.testBit 5 := rfl
  unfold Mgmt.deviceReset Mgmt.raiseAlert
  rw [mask]
  split <;> rfl

theorem Mgmt.raiseAlert_faultedCount (a : Alert) (m : Mgmt) : (m.raiseAlert a).faultedCount = m.faultedCount := by
  unfold Mgmt.raiseAlert
  (repeat' split) <;> rfl

theorem Coord.deviceReset_all_obj (c : Coord) (i : ObjIx) :
    (c.deviceReset .all).obj i = ⟨advanceGen (c.obj i).gen, .free⟩ := by
  simp [Coord.obj, Coord.deviceReset, ObjEntry.resetAll, Coord.clearSessions]

/-- Settles O47: both events perform the reset, in a state that differs from the one before them in nothing the reset
reads. -/
theorem pendingResetIsPerformed : Obligations.PendingResetIsPerformed := by
  intro s sc pending done
  have main (u : State) (settings : u.mgmt.params = s.mgmt.params ∧ u.mgmt.epoch = s.mgmt.epoch)
      (same : u.besideReports = s.besideReports) : done (performReset sc u) := by
    obtain ⟨params, epoch, _⟩ := drainReports_settings u
    have kept := (drainReports_besideReports u).trans same
    simp only [State.besideReports, Prod.mk.injEq] at kept
    obtain ⟨⟨objects, sessions, waits⟩, ⟨_, queue⟩, ports, disps⟩ := kept
    rw [settings.1] at params
    rw [settings.2] at epoch
    obtain ⟨params', epoch', cause, reset, grace, served⟩ := ((drainReports u).mgmt.clearedBy sc).raiseAlert_settings
      (.deviceReset sc (advanceEpoch (drainReports u).mgmt.epoch))
    have tables := Coord.deviceReset_sessionTables sc (drainReports u).coord
    simp only [Coord.sessionTables, Prod.mk.injEq] at tables
    obtain ⟨sessions', waits', boxes'⟩ := tables
    have disp (p : Link) : (performReset sc u).disp p = ((drainReports u).disp p).deviceReset := tableMap_get _ _ _ _
    have port (p : Link) : (performReset sc u).port p =
        ((drainReports u).port p).deviceReset (advanceEpoch (drainReports u).mgmt.epoch) := tableMap_get _ _ _ _
    have alerts : (performReset sc u).mgmt.alerts = _ := Mgmt.deviceReset_alerts sc (drainReports u).mgmt
    have count : (performReset sc u).mgmt.faultedCount = _ := Mgmt.raiseAlert_faultedCount _ _
    have sess (j : SessIx) : (performReset sc u).coord.sess j = (drainReports u).coord.clearSessions.sess j := by
      rw [Coord.sess, Coord.sess, ← sessions']
      rfl
    have wait (w : WaitIx) : (performReset sc u).coord.wait w = (drainReports u).coord.clearSessions.wait w := by
      rw [Coord.wait, Coord.wait, ← waits']
      rfl
    have box (j : SessIx) : (performReset sc u).coord.box j = (drainReports u).coord.clearSessions.box j := by
      rw [Coord.box, Coord.box, ← boxes']
      rfl
    have sameSess (j : SessIx) : (drainReports u).coord.sess j = s.coord.sess j := by simp only [Coord.sess, sessions]
    have sameWait (w : WaitIx) : (drainReports u).coord.wait w = s.coord.wait w := by simp only [Coord.wait, waits]
    have newEpoch : (performReset sc u).mgmt.epoch = advanceEpoch s.mgmt.epoch := by
      rw [← epoch]
      exact epoch'
    refine ⟨newEpoch, ?_, reset, grace, params'.trans params, served, rfl, rfl, rfl, queue, ?_, fun all => ?_,
      fun j => ?_, fun w => ?_, fun j => ?_, fun all i => ?_, fun p => ⟨?_, fun k => ?_⟩, fun p => ?_⟩
    · cases sc <;> exact cause
    · rw [alerts, newEpoch, epoch, params]
    · subst all
      exact count
    · rw [sess, Coord.clearSessions_sess, sameSess]
    · rw [wait, Coord.clearSessions_wait, sameWait]
    · rw [box, Coord.clearSessions_box]
    · subst all
      refine (Coord.deviceReset_all_obj _ i).trans ?_
      simp only [Coord.obj, objects]
    · rw [disp]
      rfl
    · rw [disp, Dispatcher.deviceReset_slot]
      simp only [Dispatcher.slot, congrFun disps p]
    · obtain ⟨state, lane⟩ := Prod.mk.injEq .. ▸ congrFun ports p
      rw [port]
      have fields := Port.deviceReset_fields (advanceEpoch (drainReports u).mgmt.epoch) ((drainReports u).port p)
      rw [state, lane] at fields
      exact fields
  refine ⟨fun expired => ⟨_, rfl, ?_⟩, fun ⟨p, acked⟩ => ?_⟩
  · have performs : graceExpiry s = performReset sc (s.setMgmt { s.mgmt with grace := none }) := by
      rw [graceExpiry, if_pos expired, performPending]
      simp only [State.setMgmt_mgmt, pending]
    rw [performs]
    exact main _ ⟨rfl, rfl⟩ rfl
  · obtain ⟨q, first⟩ : ∃ q, resetAckPort? s = some q :=
      Option.isSome_iff_exists.mp (List.find?_isSome.mpr ⟨p, mem_indices p, acked⟩)
    have runs : exec .resetReplyAcked s =
        .next (performReset sc (s.modPort q fun x => { x with resetAck := false })) := by
      have arm : exec .resetReplyAcked s = execResetReplyAcked s := rfl
      rw [arm, execResetReplyAcked, first]
      simp only [performPending, State.modPort_mgmt, pending]
    refine ⟨_, runs, main _ ⟨rfl, rfl⟩ ?_⟩
    simp only [State.besideReports, State.port_modPort]
    refine congrArg (fun f => (_, _, f, _)) (funext fun n => ?_)
    split
    case isTrue same => rw [same]
    case isFalse => rfl

/-! ### The objects at a reset of scope SESSIONS -/

/-- The kind fields of an object at a reset of scope SESSIONS (R42, R63). -/
def ObjKind.reset : ObjKind → ObjKind
  | .lock l => .lock l.reset
  | .counter k => .counter { k with waiters := [] }

/-- No LIVE object record of the tables has a wrong bit. -/
def Coord.objectsClean (c : Coord) : Prop := ∀ i o h, (c.obj i).body = .live o h → h = .clean

theorem ObjEntry.mapKind_clean {e : ObjEntry} {f : ObjKind → ObjKind} {o : ObjRecord} {h : Health}
    (live : (e.mapKind f).body = .live o h) : h = .clean := by
  obtain ⟨gen, body⟩ := e
  cases body <;> cases live
  rfl

theorem resetObject_obj {c : Coord} (clean : c.objectsClean) (i k : ObjIx) :
    (resetObject i c).obj k = if i = k then (c.obj k).mapKind ObjKind.reset else c.obj k := by
  have dead (absent : c.record? i = none) : (c.obj i).mapKind ObjKind.reset = c.obj i := by
    rcases entry : c.obj i with ⟨gen, body⟩
    simp only [Coord.record?, entry] at absent
    cases body with
    | live => cases absent
    | _ => rfl
  have live (o : ObjRecord) (present : c.record? i = some o) :
      (c.obj i).mapKind ObjKind.reset = (c.obj i).mapKind fun _ => o.kind.reset := by
    rcases entry : c.obj i with ⟨gen, body⟩
    simp only [Coord.record?, entry] at present
    cases body <;> cases present
    rfl
  unfold resetObject
  rw [readObj_ofClean clean]
  rcases record : c.record? i with _ | ⟨name, l | n⟩
  · by_cases same : i = k
    · subst same; simp [dead record]
    · simp [same]
  · by_cases same : i = k
    · subst same; simp [live _ record, Coord.obj_setKind, ObjKind.reset]
    · simp [same, Coord.obj_setKind]
  · by_cases same : i = k
    · subst same; simp [live _ record, Coord.obj_setKind, ObjKind.reset]
    · simp [same, Coord.obj_setKind]

theorem resetObject_objectsClean (i : ObjIx) (c : Coord) (clean : c.objectsClean) : (resetObject i c).objectsClean := by
  intro k o h live
  rw [resetObject_obj clean] at live
  split at live
  · exact ObjEntry.mapKind_clean live
  · exact clean k o h live

theorem performReset_coord (sc : Scope) (u : State) :
    (performReset sc u).coord = (drainReports u).coord.deviceReset sc := by
  unfold performReset
  generalize drainReports u = v
  rfl

theorem Coord.deviceReset_sessions (c : Coord) :
    c.deviceReset .sessions = scan (indices 256) resetObject c.clearSessions := rfl

/-- Settles O48: the scan of the objects resets the kind fields of every LIVE entry once. -/
theorem sessionResetKeepsObjects : Obligations.SessionResetKeepsObjects := by
  intro s pending grace clean
  obtain ⟨u, performs, kept⟩ : ∃ u, graceExpiry s = performReset .sessions u ∧
      (drainReports u).besideReports = s.besideReports := by
    refine ⟨s.setMgmt { s.mgmt with grace := none }, ?_, drainReports_besideReports _⟩
    rw [graceExpiry, if_pos grace, performPending]
    simp only [State.setMgmt_mgmt, pending]
  simp only [State.besideReports, Prod.mk.injEq] at kept
  obtain ⟨⟨objects, _⟩, _⟩ := kept
  have drained (i : ObjIx) : (drainReports u).coord.clearSessions.obj i = s.coord.obj i := by
    rw [Coord.obj, Coord.obj, ← objects]
    rfl
  have obj (i : ObjIx) : (performReset .sessions u).coord.obj i = (s.coord.obj i).mapKind ObjKind.reset := by
    have clean' : (drainReports u).coord.clearSessions.objectsClean := fun k o h live =>
      clean k o h (by rw [← drained k]; exact live)
    rw [performReset_coord, Coord.deviceReset_sessions, ← drained i]
    generalize (drainReports u).coord.clearSessions = c at clean'
    exact scan_eachOnce (inv := Coord.objectsClean) (read := Coord.obj) (act := fun _ e => e.mapKind ObjKind.reset)
      resetObject_objectsClean (fun c i k clean => resetObject_obj clean i k) c clean' i
  refine ⟨_, congrArg Host.Outcome.next performs, fun i => ⟨?_, fun name l live => ?_, fun name k live => ?_,
    fun faulted => ?_, fun free => ?_⟩⟩
  · rw [obj]; rfl
  · rw [obj]; simp [ObjEntry.mapKind, live, ObjKind.reset, LockRecord.reset]
  · rw [obj]; simp [ObjEntry.mapKind, live, ObjKind.reset]
  · rw [obj]; simp [ObjEntry.mapKind, faulted]
  · rw [obj]; simp [ObjEntry.mapKind, free]

end Sys2Proof.Machine
end

/-! The coarse tick (R75, R86, R179): its countdown, what its expiries and its passes leave alone, and the step of the
patrol, and from that the statement O34. -/

section
namespace Sys2Proof.Machine

/-! ### The countdown -/

/-- The remaining lease lowered by one (R86). -/
def SessEntry.counted (e : SessEntry) : SessEntry :=
  ⟨e.gen, e.body.map fun b => { b with record := { b.record with remaining := b.record.remaining - 1 } }⟩

/-- The remaining deadline, if there is one, lowered by one (R74). -/
def WaitEntry.counted (e : WaitEntry) : WaitEntry :=
  ⟨e.gen, e.body.map fun y => { y with deadline := y.deadline.map (· - 1) }⟩

/-- The tables after step 1 of a coarse tick (R75). -/
def Coord.counted (c : Coord) : Coord :=
  { c with sessions := tableMap SessEntry.counted c.sessions, waits := tableMap WaitEntry.counted c.waits }

@[simp] theorem Coord.counted_obj (c : Coord) (i : ObjIx) : c.counted.obj i = c.obj i := rfl

@[simp] theorem Coord.counted_sess (c : Coord) (j : SessIx) : c.counted.sess j = (c.sess j).counted :=
  tableMap_get _ _ _ _

@[simp] theorem Coord.counted_wait (c : Coord) (w : WaitIx) : c.counted.wait w = (c.wait w).counted :=
  tableMap_get _ _ _ _

@[simp] theorem Coord.counted_engineOut (c : Coord) : c.counted.engineOut = c.engineOut := rfl

@[simp] theorem Coord.counted_integrityOut (c : Coord) : c.counted.integrityOut = c.integrityOut := rfl

@[simp] theorem Coord.counted_sessHandle (c : Coord) (j : SessIx) : c.counted.sessHandle j = c.sessHandle j := by
  rw [Coord.sessHandle, Coord.counted_sess, Coord.sessHandle]
  rfl

@[simp] theorem Coord.counted_box (c : Coord) (j : SessIx) : c.counted.box j = c.box j := rfl

/-- No session record of the tables has a wrong bit. -/
def Coord.sessionsClean (c : Coord) : Prop := ∀ j b, (c.sess j).body = some b → b.health = .clean

theorem countLease_free {H : Handler} {j : SessIx} {c : Coord} (free : (c.sess j).body = none) :
    countLease H j c = c := by
  simp [countLease, readSess, free]

theorem countLease_current {H : Handler} {j : SessIx} {c : Coord} {b : SessCurrent} (current : (c.sess j).body = some b)
    (clean : b.health = .clean) :
    countLease H j c = c.setSessRecord j { b.record with remaining := b.record.remaining - 1 } := by
  simp [countLease, readSess_clean H j c b current clean]

theorem countLease_sess {H : Handler} {c : Coord} (clean : c.sessionsClean) (j k : SessIx) :
    (countLease H j c).sess k = if j = k then (c.sess k).counted else c.sess k := by
  rcases entry : c.sess j with ⟨gen, _ | b⟩
  · rw [countLease_free (by rw [entry])]
    split
    case isTrue same => subst same; rw [entry]; rfl
    case isFalse => rfl
  · have sound := clean j b (by rw [entry])
    rw [countLease_current (by rw [entry]) sound, Coord.setSessRecord_sess]
    split
    case isTrue same => subst same; simp [entry, SessEntry.counted, sound]
    case isFalse => rfl

theorem countLease_sessionsClean {H : Handler} (j : SessIx) (c : Coord) (clean : c.sessionsClean) :
    (countLease H j c).sessionsClean := by
  intro k b current
  rw [countLease_sess clean] at current
  split at current
  · obtain ⟨b', current', rfl⟩ := Option.map_eq_some_iff.mp current
    exact clean k b' current'
  · exact clean k b current

/-- What the countdown of the leases leaves alone. -/
def Coord.besideSessions (c : Coord) :
    (Vector ObjEntry 256 × Vector WaitEntry 128 × Vector NoticeBox 32) × (List Report × List Report) :=
  ((c.objects, c.waits, c.boxes), (c.engineOut, c.integrityOut))

theorem countLease_besideSessions {H : Handler} {c : Coord} (clean : c.sessionsClean) (j : SessIx) :
    (countLease H j c).besideSessions = c.besideSessions := by
  cases entry : (c.sess j).body with
  | none => rw [countLease_free entry]
  | some b => rw [countLease_current entry (clean j b entry)]; simp [Coord.besideSessions]

/-- What the countdown of the deadlines leaves alone. -/
def Coord.besideWaits (c : Coord) :
    (Vector ObjEntry 256 × Vector SessEntry 32 × Vector NoticeBox 32) × (List Report × List Report) :=
  ((c.objects, c.sessions, c.boxes), (c.engineOut, c.integrityOut))

theorem countDeadline_wait (w v : WaitIx) (c : Coord) :
    (countDeadline w c).wait v = if w = v then (c.wait v).counted else c.wait v := by
  rcases entry : c.wait w with ⟨gen, _ | y⟩
  · simp only [countDeadline, entry]
    split
    case isTrue same => subst same; rw [entry]; rfl
    case isFalse => rfl
  · simp only [countDeadline, entry, Coord.wait_setWait]
    split
    case isTrue same => subst same; rw [entry]; rfl
    case isFalse => rfl

theorem countDeadline_besideWaits (w : WaitIx) (c : Coord) : (countDeadline w c).besideWaits = c.besideWaits := by
  unfold countDeadline
  split <;> rfl

/-- Two tables whose entries are equal at every index are equal. -/
theorem table_ext {α : Type} {n : Nat} {u v : Vector α n} (same : ∀ i : Fin n, u[i.val] = v[i.val]) : u = v :=
  Vector.ext fun i low => same ⟨i, low⟩

/-- With the session records sound, step 1 lowers every remaining lease and every deadline by one and does nothing else
(R75). -/
theorem tickCountdown_eq {c : Coord} (clean : c.sessionsClean) : tickCountdown c = c.counted := by
  have sess (k : SessIx) : (scan (indices 32) (countLease deferredHandler) c).sess k = (c.sess k).counted :=
    scan_eachOnce (inv := Coord.sessionsClean) (read := Coord.sess) (act := fun _ => SessEntry.counted)
      countLease_sessionsClean (fun c i k clean => countLease_sess clean i k) c clean k
  have beside : (scan (indices 32) (countLease deferredHandler) c).besideSessions = c.besideSessions :=
    (scan_invariant (inv := fun u => u.sessionsClean ∧ u.besideSessions = c.besideSessions)
      (fun j u kept => ⟨countLease_sessionsClean j u kept.1, (countLease_besideSessions kept.1 j).trans kept.2⟩)
      _ c ⟨clean, rfl⟩).2
  unfold tickCountdown
  generalize scan (indices 32) (countLease deferredHandler) c = u at sess beside
  have wait (v : WaitIx) : (scan (indices 128) countDeadline u).wait v = (u.wait v).counted :=
    scan_eachOnce (inv := fun _ => True) (read := Coord.wait) (act := fun _ => WaitEntry.counted)
      (fun _ _ _ => trivial) (fun c w v _ => countDeadline_wait w v c) u trivial v
  have beside' : (scan (indices 128) countDeadline u).besideWaits = u.besideWaits :=
    scan_keeps (part := Coord.besideWaits) countDeadline_besideWaits _ u
  generalize scan (indices 128) countDeadline u = t at wait beside'
  simp only [Coord.besideSessions, Coord.besideWaits, Prod.mk.injEq] at beside beside'
  obtain ⟨⟨objects, waits, boxes⟩, engineOut, integrityOut⟩ := beside
  obtain ⟨⟨objects', sessions, boxes'⟩, engineOut', integrityOut'⟩ := beside'
  have sessions' : t.sessions = c.counted.sessions := table_ext fun k => by
    rw [sessions]
    exact (sess k).trans (c.counted_sess k).symm
  have waits' : t.waits = c.counted.waits := table_ext fun v => by
    refine (wait v).trans (Eq.trans ?_ (c.counted_wait v).symm)
    rw [Coord.wait, waits]
    rfl
  obtain ⟨_, _, _, _, _, _⟩ := t
  simp only at *
  subst sessions' waits' objects' boxes' engineOut' integrityOut'
  rw [objects, boxes, engineOut, integrityOut]
  rfl

/-! ### Expiries and passes with nothing to do -/

/-- No lease is at 0 but that of the session named, if one is (R92). -/
def Coord.noLeaseOut (c : Coord) (j : Option SessIx) : Prop := ∀ n, some n ≠ j → c.leaseOut n = false

/-- No deadline is at 0 but that of the wait named, if one is (R74). -/
def Coord.noDeadlineOut (c : Coord) (w : Option WaitIx) : Prop := ∀ v, some v ≠ w → c.deadlineOut v = false

theorem noneRunsOut.noLeaseOut {s : State} {j : Option SessIx} {w : Option WaitIx} (left : noneRunsOut s j w) :
    s.coord.counted.noLeaseOut j := by
  intro n other
  cases current : (s.coord.sess n).body with
  | none => simp [Coord.leaseOut, Coord.sessRecord?, SessEntry.counted, current]
  | some b =>
    have two := left.1 n b other current
    simp only [Coord.leaseOut, Coord.sessRecord?, Coord.counted_sess, SessEntry.counted, current, Option.map_some,
      Option.any_some, beq_eq_false_iff_ne]
    omega

theorem noneRunsOut.noDeadlineOut {s : State} {j : Option SessIx} {w : Option WaitIx} (left : noneRunsOut s j w) :
    s.coord.counted.noDeadlineOut w := by
  intro v other
  cases body : (s.coord.wait v).body with
  | none => simp [Coord.deadlineOut, WaitEntry.counted, body]
  | some y =>
    cases deadline : y.deadline with
    | none => simp [Coord.deadlineOut, WaitEntry.counted, body, deadline]
    | some d =>
      have two := left.2 v y d other body deadline
      simp only [Coord.deadlineOut, Coord.counted_wait, WaitEntry.counted, body, deadline, Option.map_some,
        Option.any_some, beq_eq_false_iff_ne, ne_eq, Option.some.injEq]
      omega

theorem expireIfOut_idle {H : Handler} {j : SessIx} {c : Coord} (idle : c.leaseOut j = false) :
    expireIfOut H j c = c := by simp [expireIfOut, idle]

theorem expireWaitIfOut_idle {H : Handler} {w : WaitIx} {c : Coord} (idle : c.deadlineOut w = false) :
    expireWaitIfOut H w c = c := by simp [expireWaitIfOut, idle]

/-- Steps 2 and 3 with nothing at 0. -/
theorem tickExpiries_idle {c : Coord} (leases : c.noLeaseOut none) (deadlines : c.noDeadlineOut none) :
    tickExpiries c = c := by
  rw [tickExpiries, scan_nothing (fun j => expireIfOut_idle (leases j nofun)),
    scan_nothing (fun w => expireWaitIfOut_idle (deadlines w nofun))]

theorem lockLost_same {before after : Coord} {i : ObjIx} (same : after.obj i = before.obj i) :
    lockLost before after i = false := by
  have lock : after.lock? i = before.lock? i := by rw [Coord.lock?, Coord.lock?, Coord.record?, same, Coord.record?]
  rw [lockLost, lock]
  cases before.lock? i <;> simp

theorem counterLost_same {before after : Coord} {i : ObjIx} (same : after.obj i = before.obj i) :
    counterLost before after i = false := by
  have counter : after.counter? i = before.counter? i := by
    rw [Coord.counter?, Coord.counter?, Coord.record?, same, Coord.record?]
  rw [counterLost, counter]
  cases before.counter? i <;> simp

/-- Step 4 at an object (R75). -/
def tickPass (start mid late : Coord) (i : ObjIx) (c : Coord) : Coord :=
  if lockLost start late i || counterLost mid late i then objectPass handler i c else c

theorem tickPasses_eq (start mid late : Coord) :
    tickPasses start mid late = scan (indices 256) (tickPass start mid late) late := rfl

/-- An object that has lost nothing is not passed. -/
theorem tickPass_same {start mid late : Coord} {i : ObjIx} (same : late.obj i = start.obj i)
    (same' : late.obj i = mid.obj i) (c : Coord) : tickPass start mid late i c = c := by
  simp [tickPass, lockLost_same same, counterLost_same same']

/-- With the session records sound and nothing running out, a coarse tick is its countdown (R75). -/
theorem engineTick_idle {c : Coord} (clean : c.sessionsClean) (leases : c.counted.noLeaseOut none)
    (deadlines : c.counted.noDeadlineOut none) : engineTick c = c.counted := by
  have late : tickExpiries c.counted = c.counted := tickExpiries_idle leases deadlines
  simp only [engineTick, tickCountdown_eq clean, late, tickPasses_eq]
  exact scan_nothing (fun i => tickPass_same rfl rfl _) _

/-! ### The patrol step -/

/-- The record at a patrol position has no wrong bit (R178, R179). -/
def Coord.cleanAt (c : Coord) (x : PatrolIx) : Prop :=
  match patrolTarget x with
  | .obj i => ∀ o h, (c.obj i).body = .live o h → h = .clean
  | .sess j => ∀ b, (c.sess j).body = some b → b.health = .clean

/-- The patrol once it has passed over a position without a report: it has moved on if SCRUB is set (R179). -/
def State.patrolled (s : State) : Patrol :=
  if s.mgmt.params.scrub = 1 then { s.patrol with position := s.patrol.position + 1 } else s.patrol

/-- A patrol step at a record without a wrong bit moves on to the next position (R179). -/
theorem patrolStep_clean {s : State} (clean : s.coord.cleanAt s.patrol.position) :
    patrolStep s = { s with patrol := s.patrolled } := by
  unfold patrolStep State.patrolled
  split
  case isFalse => rfl
  case isTrue =>
    unfold Coord.cleanAt at clean
    cases target : patrolTarget s.patrol.position with
    | obj i =>
      rw [target] at clean
      cases body : (s.coord.obj i).body with
      | live o h => cases clean o h body; simp [target, readObj, body, nextPosition]
      | _ => simp [target, readObj, body, nextPosition]
    | sess j =>
      rw [target] at clean
      cases body : (s.coord.sess j).body with
      | some b => simp [target, readSess, body, clean b body, nextPosition]
      | none => simp [target, readSess, body, nextPosition]

/-- The state once a coarse tick has been taken from the timebase (R66). -/
def State.tickTaken (s : State) : State :=
  { s with timebase := { s.timebase with coarseDue := s.timebase.coarseDue - 1 } }

/-- A coarse tick that is due runs the engine's tick and the patrol step, in either order (R66, R178). -/
theorem exec_coarseTick_due {s : State} (patrolFirst : Bool) (due : 0 < s.timebase.coarseDue) :
    exec (.coarseTick patrolFirst) s = .next (if patrolFirst
      then (patrolStep s.tickTaken).setCoord (engineTick (patrolStep s.tickTaken).coord)
      else patrolStep (s.tickTaken.setCoord (engineTick s.coord))) := by
  have arm : exec (.coarseTick patrolFirst) s = execCoarseTick patrolFirst s := rfl
  rw [arm, execCoarseTick, if_neg (Nat.pos_iff_ne_zero.mp due)]
  cases patrolFirst
  · simp only [Bool.false_eq_true, if_false]
    rfl
  · simp only [if_true]
    rfl

/-- The state after a coarse tick that leaves the tables `u`, with no report of the patrol (R75, R179). -/
def State.ticked (s : State) (u : Coord) : State := { s.tickTaken with coord := u, patrol := s.patrolled }

@[simp] theorem State.ticked_coord (s : State) (u : Coord) : (s.ticked u).coord = u := rfl

theorem tickFrame_ticked (s : State) (u : Coord) : tickFrame s (s.ticked u) := ⟨rfl, rfl, rfl, rfl, rfl, rfl, rfl⟩

/-- A coarse tick whose patrol step finds no wrong bit, before the engine's tick and after it. -/
theorem exec_coarseTick_clean {s : State} (patrolFirst : Bool) {u : Coord} (due : 0 < s.timebase.coarseDue)
    (runs : engineTick s.coord = u) (before : s.coord.cleanAt s.patrol.position)
    (after : u.cleanAt s.patrol.position) : exec (.coarseTick patrolFirst) s = .next (s.ticked u) := by
  have unread : ({ s.tickTaken with patrol := s.tickTaken.patrolled } : State).coord = s.coord := rfl
  rw [exec_coarseTick_due patrolFirst due, patrolStep_clean (s := s.tickTaken) before, unread, runs,
    patrolStep_clean (s := s.tickTaken.setCoord u) after]
  cases patrolFirst <;> rfl

/-- Settles O34: the tick is its countdown, and the patrol passes over its position. -/
theorem coarseTickCountsDown : Obligations.CoarseTickCountsDown := by
  intro s patrolFirst due clean left free
  have cleanAt : s.coord.cleanAt s.patrol.position := by
    unfold Coord.cleanAt patrolTarget
    split
    case h_1 i target =>
      split at target <;> cases target
      rw [free]
      nofun
    case h_2 j target => exact clean j
  have cleanAt' : s.coord.counted.cleanAt s.patrol.position := by
    unfold Coord.cleanAt at cleanAt ⊢
    split
    case h_1 i target => rw [target] at cleanAt; exact cleanAt
    case h_2 j target =>
      intro b current
      obtain ⟨b', current', rfl⟩ := Option.map_eq_some_iff.mp (by simpa [SessEntry.counted] using current)
      exact clean j b' current'
  exact ⟨_, exec_coarseTick_clean patrolFirst due (engineTick_idle clean left.noLeaseOut left.noDeadlineOut) cleanAt
    cleanAt', fun n => s.coord.counted_sess n, fun v => s.coord.counted_wait v, rfl, ⟨rfl, rfl, rfl⟩,
    tickFrame_ticked s _⟩

end Sys2Proof.Machine
end

/-! What runs out (R40, R72, R74, R75, R92): the expiry of a lease, that of a deadline, and the pass of the object that
has lost a holder or a waiter, and from that the statement O35. -/

section
namespace Sys2Proof.Machine

/-! ### The expiry of a lease -/

/-- The tables once session `j`, which holds the lock `l` named `h` alone and waits for nothing, has expired (R40,
R92). -/
def expiredTables (c : Coord) (j : SessIx) (h : Handle) (l : LockRecord) : Coord :=
  let u := (c.setKind h.objIx (.lock (l.abandonHolder j))).modSess j fun x => { x with holds := x.holds.erase h }
  ((u.setBox j ⟨none, []⟩).setSess j ⟨advanceGen (c.sess j).gen, none⟩).report (.sessionExpired (c.sessHandle j) 1)

theorem obj_expiredTables (c : Coord) (j : SessIx) (h : Handle) (l : LockRecord) (i : ObjIx) :
    (expiredTables c j h l).obj i =
      if h.objIx = i then (c.obj i).mapKind fun _ => .lock (l.abandonHolder j) else c.obj i := by
  simp [expiredTables, Coord.obj_setKind]

theorem sess_expiredTables (c : Coord) (j : SessIx) (h : Handle) (l : LockRecord) (n : SessIx) :
    (expiredTables c j h l).sess n = if j = n then ⟨advanceGen (c.sess j).gen, none⟩ else c.sess n := by
  by_cases same : j = n <;> simp [expiredTables, Coord.sess_modSess, same]

theorem box_expiredTables (c : Coord) (j : SessIx) (h : Handle) (l : LockRecord) (n : SessIx) :
    (expiredTables c j h l).box n = if j = n then ⟨none, []⟩ else c.box n := by
  simp [expiredTables]

@[simp] theorem waits_expiredTables (c : Coord) (j : SessIx) (h : Handle) (l : LockRecord) :
    (expiredTables c j h l).waits = c.waits := by simp [expiredTables]

@[simp] theorem wait_expiredTables (c : Coord) (j : SessIx) (h : Handle) (l : LockRecord) (w : WaitIx) :
    (expiredTables c j h l).wait w = c.wait w := by simp [Coord.wait]

@[simp] theorem engineOut_expiredTables (c : Coord) (j : SessIx) (h : Handle) (l : LockRecord) :
    (expiredTables c j h l).engineOut = c.engineOut ++ [.sessionExpired (c.sessHandle j) 1] := by simp [expiredTables]

@[simp] theorem integrityOut_expiredTables (c : Coord) (j : SessIx) (h : Handle) (l : LockRecord) :
    (expiredTables c j h l).integrityOut = c.integrityOut := by simp [expiredTables]

/-- The expiry of a session that waits for nothing and has one hold (R92). -/
theorem expireIfOut_sole {H : Handler} {s : State} {j : SessIx} {b : SessCurrent} {h : Handle} {name : List Byte}
    {l : LockRecord} (current : (s.coord.sess j).body = some b) (clean : b.health = .clean)
    (out : b.record.remaining = 0) (holds : b.record.holds = [h]) (waitless : ownsNoWait s j)
    (names : namesObject s h ⟨name, .lock l⟩) : expireIfOut H j s.coord = expiredTables s.coord j h l := by
  have here : s.coord.sessRecord? j = some b.record := s.coord.sessRecord?_current j b current
  have leaseOut : s.coord.leaseOut j = true := by simp [Coord.leaseOut, here, out]
  have read : readObj H h.objIx s.coord = (some ⟨name, .lock l⟩, s.coord) :=
    readObj_clean _ _ _ _ (by rw [names.live])
  have released : b.record.holds.reverse.foldl (releaseHold H true false j) (0, s.coord) =
      (1, (s.coord.setKind h.objIx (.lock (l.abandonHolder j))).modSess j fun x =>
        { x with holds := x.holds.erase h }) := by
    simp [holds, releaseHold, read]
  rw [expireIfOut, if_pos leaseOut, readSess_clean H j s.coord b current clean]
  simp only [expireSession]
  rw [endSession_waitless here released waitless (by simp)]
  simp [expiredTables, Coord.sess_modSess, SessEntry.mapRecord]

/-! ### The expiry of a deadline -/

/-- The tables once wait `w`, in use as `y` on an object with the kind fields `kind`, has timed out (R72). -/
def timedOutTables (c : Coord) (w : WaitIx) (y : WaitRecord) (kind : ObjKind) : Coord :=
  (((c.setKind y.object.objIx (kind.without (waitHandle w (c.wait w).gen))).modSess y.owner fun x =>
    x.lowerCount y.kind).pushWaitNotice .timedOut (waitHandle w (c.wait w).gen) y).freeWait w

theorem obj_timedOutTables (c : Coord) (w : WaitIx) (y : WaitRecord) (kind : ObjKind) (i : ObjIx) :
    (timedOutTables c w y kind).obj i = if y.object.objIx = i then
      (c.obj i).mapKind fun _ => kind.without (waitHandle w (c.wait w).gen) else c.obj i := by
  simp [timedOutTables, Coord.freeWait_eq, Coord.pushWaitNotice, Coord.obj_setKind]

theorem sess_timedOutTables (c : Coord) (w : WaitIx) (y : WaitRecord) (kind : ObjKind) (n : SessIx) :
    (timedOutTables c w y kind).sess n = if y.owner = n then (c.sess n).mapRecord fun x =>
      { x.lowerCount y.kind with nextSerial := advanceSerial x.nextSerial } else c.sess n := by
  by_cases owner : y.owner = n
  · simp only [timedOutTables, Coord.freeWait_eq, Coord.pushWaitNotice, Coord.sess_setWait, Coord.sess_pushNotice,
      Coord.sess_modSess, Coord.sess_setKind, owner, if_true, SessEntry.mapRecord, SessRecord.lowerCount]
    cases y.kind.isLock <;> cases (c.sess n).body <;> rfl
  · simp [timedOutTables, Coord.freeWait_eq, Coord.pushWaitNotice, Coord.sess_pushNotice, Coord.sess_modSess, owner]

theorem wait_timedOutTables (c : Coord) (w : WaitIx) (y : WaitRecord) (kind : ObjKind) (v : WaitIx) :
    (timedOutTables c w y kind).wait v = if w = v then ⟨advanceGen (c.wait w).gen, none⟩ else c.wait v := by
  simp [timedOutTables, Coord.freeWait_eq, Coord.pushWaitNotice]

theorem box_timedOutTables (c : Coord) (w : WaitIx) (y : WaitRecord) (kind : ObjKind) (n : SessIx) :
    (timedOutTables c w y kind).box n = if y.owner = n then ⟨(c.box n).view, (c.box n).queue ++
        (c.sess n).body.toList.map fun b =>
          ⟨b.record.nextSerial, .timedOut, y.object, some (waitHandle w (c.wait w).gen, y.tag), false, y.slotRef⟩⟩
      else c.box n := by
  by_cases owner : y.owner = n
  · simp only [timedOutTables, Coord.freeWait_eq, Coord.pushWaitNotice, Coord.box_setWait, Coord.box_pushNotice,
      Coord.box_modSess, Coord.box_setKind, Coord.sess_modSess, Coord.sess_setKind, owner, if_true,
      SessEntry.mapRecord, SessRecord.lowerCount]
    cases y.kind.isLock <;> cases (c.sess n).body <;> rfl
  · simp [timedOutTables, Coord.freeWait_eq, Coord.pushWaitNotice, Coord.box_pushNotice, owner]

@[simp] theorem engineOut_timedOutTables (c : Coord) (w : WaitIx) (y : WaitRecord) (kind : ObjKind) :
    (timedOutTables c w y kind).engineOut = c.engineOut := by
  simp [timedOutTables, Coord.freeWait_eq, Coord.pushWaitNotice]

@[simp] theorem integrityOut_timedOutTables (c : Coord) (w : WaitIx) (y : WaitRecord) (kind : ObjKind) :
    (timedOutTables c w y kind).integrityOut = c.integrityOut := by
  simp [timedOutTables, Coord.freeWait_eq, Coord.pushWaitNotice]

/-- The expiry of a wait on a LIVE object whose record is sound, as is its owner's (R72). -/
theorem expireWaitIfOut_current {H : Handler} {c : Coord} {w : WaitIx} {y : WaitRecord} {o : ObjRecord}
    {b : SessCurrent} (body : (c.wait w).body = some y) (out : y.deadline = some 0)
    (live : (c.obj y.object.objIx).body = .live o .clean) (current : (c.sess y.owner).body = some b)
    (clean : b.health = .clean) : expireWaitIfOut H w c = timedOutTables c w y o.kind := by
  have deadlineOut : c.deadlineOut w = true := by simp [Coord.deadlineOut, body, out]
  rw [expireWaitIfOut, if_pos deadlineOut]
  simp only [expireWait, body, readObj_clean H _ c o live, readSess_clean H _ c b current clean,
    Coord.dequeue_live _ (c.record?_live _ o .clean live)]
  rfl

/-! ### The passes of step 4 -/

/-- Step 4 where one object alone has changed since the start of the tick, and lost a holder or an entry (R75). -/
theorem tickPasses_once {start mid late u : Coord} {i : ObjIx}
    (lost : lockLost start late i = true ∨ counterLost mid late i = true) (counted : mid.objects = start.objects)
    (others : ∀ k, k ≠ i → late.obj k = start.obj k) (passes : objectPass handler i late = u) :
    tickPasses start mid late = u := by
  have others' (k : ObjIx) (diff : k ≠ i) : late.obj k = mid.obj k :=
    (others k diff).trans (by rw [Coord.obj, Coord.obj, counted])
  rw [tickPasses_eq]
  refine scan_once (i := i) (fun k diff => tickPass_same (others k diff) (others' k diff) _) ?_
    (fun k diff => tickPass_same (others k diff) (others' k diff) _)
  rw [tickPass, if_pos (by simpa using lost), passes]

theorem lockLost_of {before after : Coord} {i : ObjIx} {l l' : LockRecord} (was : before.lock? i = some l)
    (is : after.lock? i = some l') (changed : l'.holders ≠ l.holders) : lockLost before after i = true := by
  simp [lockLost, was, is, Ne.symm changed]

theorem counterLost_of {before after : Coord} {i : ObjIx} {k k' : CounterRecord} (was : before.counter? i = some k)
    (is : after.counter? i = some k') (changed : k'.waiters ≠ k.waiters) : counterLost before after i = true := by
  simp [counterLost, was, is, Ne.symm changed]

theorem objectPass_lock {H : Handler} {c : Coord} {i : ObjIx} {name : List Byte} {l : LockRecord}
    (live : (c.obj i).body = .live ⟨name, .lock l⟩ .clean) : objectPass H i c = (grantPass H none i c).2 := by
  simp [objectPass, readObj_clean H i c _ live]

theorem objectPass_counter {H : Handler} {c : Coord} {i : ObjIx} {name : List Byte} {k : CounterRecord}
    (live : (c.obj i).body = .live ⟨name, .counter k⟩ .clean) : objectPass H i c = (releasePass H i c).2 := by
  simp [objectPass, readObj_clean H i c _ live]

/-- Step 4 after the expiry of the one holder of a lock is the grant pass of that lock (R40, R75). -/
theorem tickPasses_expired {start c : Coord} {j : SessIx} {h : Handle} {name : List Byte} {l : LockRecord}
    (counted : c.objects = start.objects) (live : c.obj h.objIx = ⟨h.gen, .live ⟨name, .lock l⟩ .clean⟩)
    (holder : l.holders = [j]) : tickPasses start c (expiredTables c j h l) =
      (grantPass handler none h.objIx (expiredTables c j h l)).2 := by
  have same (k : ObjIx) : c.obj k = start.obj k := by rw [Coord.obj, Coord.obj, counted]
  have late : ((expiredTables c j h l).obj h.objIx).body = .live ⟨name, .lock (l.abandonHolder j)⟩ .clean := by
    simp [obj_expiredTables, live, ObjEntry.mapKind]
  refine tickPasses_once (.inl ?_) counted (fun k diff => ?_) (objectPass_lock late)
  · refine lockLost_of (Coord.lock?_live _ _ name l .clean (by rw [← same, live]))
      (Coord.lock?_live _ _ name _ .clean late) ?_
    simp [LockRecord.abandonHolder, LockRecord.removeHolder, holder]
  · rw [obj_expiredTables, if_neg (Ne.symm diff), same]

/-- Step 4 after the expiry of the one waiter of a counter finds nobody to release (R75). -/
theorem tickPasses_timedOut {start c : Coord} {w : WaitIx} {y : WaitRecord} {name : List Byte} {k : CounterRecord}
    (counted : c.objects = start.objects)
    (live : c.obj y.object.objIx = ⟨y.object.gen, .live ⟨name, .counter k⟩ .clean⟩)
    (waiter : k.waiters = [waitHandle w (c.wait w).gen]) :
    tickPasses start c (timedOutTables c w y (.counter k)) = timedOutTables c w y (.counter k) := by
  have same (k : ObjIx) : c.obj k = start.obj k := by rw [Coord.obj, Coord.obj, counted]
  have late : ((timedOutTables c w y (.counter k)).obj y.object.objIx).body =
      .live ⟨name, .counter { k with waiters := [] }⟩ .clean := by
    simp [obj_timedOutTables, live, ObjEntry.mapKind, ObjKind.without, waiter]
  have here := Coord.counter?_live _ _ name _ .clean late
  refine tickPasses_once (.inr ?_) counted (fun k diff => ?_) ((objectPass_counter late).trans ?_)
  · exact counterLost_of (Coord.counter?_live _ _ name k .clean (by rw [live])) here (by simp [waiter])
  · rw [obj_timedOutTables, if_neg (Ne.symm diff), same]
  · rw [releasePass_empty handler _ _ _ here rfl]

/-! ### Grants -/

theorem obj_grantOne (i : ObjIx) (l : LockRecord) (w : WaitIx) (id : Handle) (y : WaitRecord) (c : Coord) (k : ObjIx) :
    (grantOne i l w id y c).obj k = if i = k then (c.obj k).mapKind fun _ =>
      .lock { l.addHolder y.owner y.kind.lockMode with queue := l.queue.tail } else c.obj k := by
  simp [grantOne, Coord.freeWait_eq, Coord.pushWaitNotice, Coord.obj_setKind]

theorem sess_grantOne (i : ObjIx) (l : LockRecord) (w : WaitIx) (id : Handle) (y : WaitRecord) (c : Coord)
    (n : SessIx) : (grantOne i l w id y c).sess n = if y.owner = n then (c.sess n).mapRecord fun x =>
      { x.lowerCount y.kind with holds := x.holds ++ [y.object], nextSerial := advanceSerial x.nextSerial }
      else c.sess n := by
  by_cases owner : y.owner = n
  · simp only [grantOne, Coord.freeWait_eq, Coord.pushWaitNotice, Coord.setLock_eq, Coord.sess_setWait,
      Coord.sess_pushNotice, Coord.sess_modSess, Coord.sess_setKind, owner, if_true, SessEntry.mapRecord,
      SessRecord.lowerCount]
    cases y.kind.isLock <;> cases (c.sess n).body <;> rfl
  · simp [grantOne, Coord.freeWait_eq, Coord.pushWaitNotice, Coord.sess_pushNotice, Coord.sess_modSess, owner]

theorem wait_grantOne (i : ObjIx) (l : LockRecord) (w : WaitIx) (id : Handle) (y : WaitRecord) (c : Coord)
    (v : WaitIx) : (grantOne i l w id y c).wait v =
      if w = v then ⟨advanceGen (c.wait w).gen, none⟩ else c.wait v := by
  simp [grantOne, Coord.freeWait_eq, Coord.pushWaitNotice]

theorem box_grantOne (i : ObjIx) (l : LockRecord) (w : WaitIx) (id : Handle) (y : WaitRecord) (c : Coord)
    (n : SessIx) : (grantOne i l w id y c).box n = if y.owner = n then ⟨(c.box n).view, (c.box n).queue ++
        (c.sess n).body.toList.map fun b =>
          ⟨b.record.nextSerial, .granted l.abandoned, y.object, some (id, y.tag), false, y.slotRef⟩⟩
      else c.box n := by
  by_cases owner : y.owner = n
  · simp only [grantOne, Coord.freeWait_eq, Coord.pushWaitNotice, Coord.setLock_eq, Coord.box_setWait,
      Coord.box_pushNotice, Coord.box_modSess, Coord.box_setKind, Coord.sess_modSess, Coord.sess_setKind, owner,
      if_true, SessEntry.mapRecord, SessRecord.lowerCount]
    cases y.kind.isLock <;> cases (c.sess n).body <;> rfl
  · simp [grantOne, Coord.freeWait_eq, Coord.pushWaitNotice, Coord.box_pushNotice, owner]

@[simp] theorem engineOut_grantOne (i : ObjIx) (l : LockRecord) (w : WaitIx) (id : Handle) (y : WaitRecord)
    (c : Coord) : (grantOne i l w id y c).engineOut = c.engineOut := by
  simp [grantOne, Coord.freeWait_eq, Coord.pushWaitNotice]

@[simp] theorem integrityOut_grantOne (i : ObjIx) (l : LockRecord) (w : WaitIx) (id : Handle) (y : WaitRecord)
    (c : Coord) : (grantOne i l w id y c).integrityOut = c.integrityOut := by
  simp [grantOne, Coord.freeWait_eq, Coord.pushWaitNotice]

/-! ### Records stay without a wrong bit -/

theorem SessEntry.mapRecord_clean {e : SessEntry} {f : SessRecord → SessRecord} {b : SessCurrent}
    (current : (e.mapRecord f).body = some b) : b.health = .clean := by
  obtain ⟨b', _, rfl⟩ := Option.map_eq_some_iff.mp current
  rfl

theorem Coord.counted_sessionsClean {c : Coord} (clean : c.sessionsClean) : c.counted.sessionsClean := by
  intro n b current
  rw [Coord.counted_sess] at current
  obtain ⟨b', current', rfl⟩ := Option.map_eq_some_iff.mp current
  exact clean n b' current'

/-- Tables in which each session entry is one of before, or FREE, or has a record written afresh. -/
theorem Coord.sessionsClean.of_entries {c u : Coord} (clean : c.sessionsClean)
    (entries : ∀ n, u.sess n = c.sess n ∨ (u.sess n).body = none ∨ ∃ f, u.sess n = (c.sess n).mapRecord f) :
    u.sessionsClean := by
  intro n b current
  obtain same | free | ⟨f, written⟩ := entries n
  · exact clean n b (same ▸ current)
  · rw [free] at current; cases current
  · exact SessEntry.mapRecord_clean (written ▸ current)

/-- Tables in which each object entry is one of before or has kind fields written afresh. -/
theorem Coord.objectsClean.of_entries {c u : Coord} (clean : c.objectsClean)
    (entries : ∀ i, u.obj i = c.obj i ∨ ∃ f, u.obj i = (c.obj i).mapKind f) : u.objectsClean := by
  intro i o h live
  obtain same | ⟨f, written⟩ := entries i
  · exact clean i o h (same ▸ live)
  · exact ObjEntry.mapKind_clean (written ▸ live)

theorem expiredTables_clean {c : Coord} (objects : c.objectsClean) (sessions : c.sessionsClean) (j : SessIx)
    (h : Handle) (l : LockRecord) : (expiredTables c j h l).objectsClean ∧ (expiredTables c j h l).sessionsClean := by
  refine ⟨objects.of_entries fun i => ?_, sessions.of_entries fun n => ?_⟩
  · rw [obj_expiredTables]
    split
    · exact .inr ⟨_, rfl⟩
    · exact .inl rfl
  · rw [sess_expiredTables]
    split
    · exact .inr (.inl rfl)
    · exact .inl rfl

theorem grantOne_clean {c : Coord} (objects : c.objectsClean) (sessions : c.sessionsClean) (i : ObjIx)
    (l : LockRecord) (w : WaitIx) (id : Handle) (y : WaitRecord) :
    (grantOne i l w id y c).objectsClean ∧ (grantOne i l w id y c).sessionsClean := by
  refine ⟨objects.of_entries fun i => ?_, sessions.of_entries fun n => ?_⟩
  · rw [obj_grantOne]
    split
    · exact .inr ⟨_, rfl⟩
    · exact .inl rfl
  · rw [sess_grantOne]
    split
    · exact .inr (.inr ⟨_, rfl⟩)
    · exact .inl rfl

theorem timedOutTables_clean {c : Coord} (objects : c.objectsClean) (sessions : c.sessionsClean) (w : WaitIx)
    (y : WaitRecord) (kind : ObjKind) :
    (timedOutTables c w y kind).objectsClean ∧ (timedOutTables c w y kind).sessionsClean := by
  refine ⟨objects.of_entries fun i => ?_, sessions.of_entries fun n => ?_⟩
  · rw [obj_timedOutTables]
    split
    · exact .inr ⟨_, rfl⟩
    · exact .inl rfl
  · rw [sess_timedOutTables]
    split
    · exact .inr (.inr ⟨_, rfl⟩)
    · exact .inl rfl

theorem Coord.cleanAt_of {c : Coord} (clean : c.objectsClean ∧ c.sessionsClean) (x : PatrolIx) : c.cleanAt x := by
  unfold Coord.cleanAt
  split
  case h_1 i _ => exact clean.1 i
  case h_2 j _ => exact clean.2 j

/-! ### A coarse tick in which one lease or one deadline runs out -/

/-- Steps 2 and 3 where one lease alone is at 0 (R75). -/
theorem tickExpiries_lease {c u : Coord} {j : SessIx} (leases : c.noLeaseOut (some j))
    (deadlines : c.noDeadlineOut none) (expires : expireIfOut deferredHandler j c = u)
    (others : ∀ n, n ≠ j → u.sess n = c.sess n) (waits : u.waits = c.waits) : tickExpiries c = u := by
  have idle (n : SessIx) (diff : n ≠ j) : c.leaseOut n = false := leases n (by simpa using diff)
  have idle' (n : SessIx) (diff : n ≠ j) : u.leaseOut n = false := by
    rw [← idle n diff, Coord.leaseOut, Coord.leaseOut, Coord.sessRecord?, others n diff, Coord.sessRecord?]
  have still (w : WaitIx) : u.deadlineOut w = false := by
    rw [← deadlines w nofun, Coord.deadlineOut, Coord.deadlineOut, Coord.wait, waits, Coord.wait]
  rw [tickExpiries, scan_once (fun n diff => expireIfOut_idle (idle n diff)) expires
    (fun n diff => expireIfOut_idle (idle' n diff)), scan_nothing (fun w => expireWaitIfOut_idle (still w))]

/-- Steps 2 and 3 where one deadline alone is at 0 (R75). -/
theorem tickExpiries_deadline {c u : Coord} {w : WaitIx} (leases : c.noLeaseOut none)
    (deadlines : c.noDeadlineOut (some w)) (expires : expireWaitIfOut deferredHandler w c = u)
    (others : ∀ v, v ≠ w → u.wait v = c.wait v) : tickExpiries c = u := by
  have idle (v : WaitIx) (diff : v ≠ w) : c.deadlineOut v = false := deadlines v (by simpa using diff)
  have idle' (v : WaitIx) (diff : v ≠ w) : u.deadlineOut v = false := by
    rw [← idle v diff, Coord.deadlineOut, Coord.deadlineOut, others v diff]
  rw [tickExpiries, scan_nothing (fun n => expireIfOut_idle (leases n nofun)),
    scan_once (fun v diff => expireWaitIfOut_idle (idle v diff)) expires
      (fun v diff => expireWaitIfOut_idle (idle' v diff))]

end Sys2Proof.Machine
end

/-! The statement O35, a clause at a time: a lease and a deadline that run out in a coarse tick, and the same by the
rows LEASE_EXPIRY and DEADLINE_EXPIRY (R74, R75, R92). -/

section
namespace Sys2Proof.Machine

theorem ownsNoWait.counted {s : State} {j : SessIx} (waitless : ownsNoWait s j) :
    ownsNoWait (s.setCoord s.coord.counted) j := by
  intro w y body
  rw [State.setCoord_coord, Coord.counted_wait] at body
  obtain ⟨y', body', rfl⟩ := Option.map_eq_some_iff.mp body
  exact waitless w y' body'

theorem Coord.counted_current {c : Coord} {j : SessIx} {b : SessCurrent} (current : (c.sess j).body = some b) :
    (c.counted.sess j).body =
      some { b with record := { b.record with remaining := b.record.remaining - 1 } } := by
  simp [SessEntry.counted, current]

theorem Coord.counted_inUse {c : Coord} {w : WaitIx} {y : WaitRecord} (body : (c.wait w).body = some y) :
    (c.counted.wait w).body = some { y with deadline := y.deadline.map (· - 1) } := by
  simp [WaitEntry.counted, body]

/-- The tick in which one lease runs out, that of the only holder of a lock, ends with the grant pass of the lock
(R75). -/
theorem engineTick_lease {s : State} {j : SessIx} {b : SessCurrent} {h : Handle} {name : List Byte} {l : LockRecord}
    (clean : sessionsClean s) (left : noneRunsOut s (some j) none) (current : (s.coord.sess j).body = some b)
    (one : b.record.remaining = 1) (holds : b.record.holds = [h]) (waitless : ownsNoWait s j)
    (names : namesObject s h ⟨name, .lock l⟩) (holder : l.holders = [j]) :
    engineTick s.coord = (grantPass handler none h.objIx (expiredTables s.coord.counted j h l)).2 := by
  have expires := expireIfOut_sole (H := deferredHandler) (s := s.setCoord s.coord.counted)
    (Coord.counted_current current) (clean j b current) (by simp [one]) holds waitless.counted names
  have late : tickExpiries s.coord.counted = expiredTables s.coord.counted j h l := by
    refine tickExpiries_lease left.noLeaseOut left.noDeadlineOut expires (fun n diff => ?_) (by simp)
    rw [sess_expiredTables, if_neg (Ne.symm diff)]
  simp only [engineTick, tickCountdown_eq (c := s.coord) clean, late]
  exact tickPasses_expired rfl names.live holder

/-- The tick in which one deadline runs out, that of a counter's only waiter (R75). -/
theorem engineTick_deadline {s : State} {w : WaitIx} {y : WaitRecord} {b : SessCurrent} {name : List Byte}
    {k : CounterRecord} (clean : sessionsClean s) (left : noneRunsOut s none (some w))
    (body : (s.coord.wait w).body = some y) (one : y.deadline = some 1)
    (names : namesObject s y.object ⟨name, .counter k⟩) (waiter : k.waiters = [waitHandle w (s.coord.wait w).gen])
    (current : (s.coord.sess y.owner).body = some b) :
    engineTick s.coord = timedOutTables s.coord.counted w { y with deadline := some 0 } (.counter k) := by
  have inUse : (s.coord.counted.wait w).body = some { y with deadline := some 0 } := by
    rw [Coord.counted_inUse body, one]
    rfl
  have live : s.coord.counted.obj y.object.objIx = ⟨y.object.gen, .live ⟨name, .counter k⟩ .clean⟩ := names.live
  have expires := expireWaitIfOut_current (H := deferredHandler) (o := ⟨name, .counter k⟩) inUse rfl
    (by rw [live]) (Coord.counted_current current) (clean _ b current)
  have late : tickExpiries s.coord.counted =
      timedOutTables s.coord.counted w { y with deadline := some 0 } (.counter k) := by
    refine tickExpiries_deadline left.noLeaseOut left.noDeadlineOut expires fun v diff => ?_
    rw [wait_timedOutTables, if_neg (Ne.symm diff)]
  simp only [engineTick, tickCountdown_eq (c := s.coord) clean, late]
  refine tickPasses_timedOut rfl live ?_
  rw [waiter, Coord.counted_wait]
  rfl

/-- Settles O35: each expiry ends one session or one wait, and the pass of its object reaches the waiter that is left,
or nobody. -/
theorem leaseAndDeadlineExpire : Obligations.LeaseAndDeadlineExpire := by
  refine ⟨?leaseTick, ?deadlineTick, ?leaseRow, ?deadlineRow⟩
  case leaseTick =>
    intro s patrolFirst j k b b' h name l w y id due clean clean' left current one holds waitless names holder queue
      body object kind owner current'
    subst object owner
    have diff : y.owner ≠ j := waitless w y body
    have handle : waitHandle w (s.coord.counted.wait w).gen = id := by rw [Coord.counted_wait]; rfl
    have isLock : y.kind.isLock = true := by rcases kind with same | same <;> simp [same, WaitKind.isLock]
    have mode : y.kind.lockMode = if y.kind = .exclusive then .exclusive else .shared := by
      rcases kind with same | same <;> simp [same, WaitKind.lockMode]
    have left' : l.abandonHolder j = { l with holders := [], mode := .free, abandoned := true } := by
      simp [LockRecord.abandonHolder, LockRecord.removeHolder, holder]
    have grantable : (l.abandonHolder j).grantable y.kind = true := by
      rcases kind with same | same <;> simp [same, left', LockRecord.grantable, LockRecord.sharedRoom]
    have counted := Coord.counted_inUse body
    have findWait := (expiredTables s.coord.counted j y.object l).findWait_inUse w _
      (by rw [wait_expiredTables]; exact counted)
    rw [wait_expiredTables, handle] at findWait
    have late : ((expiredTables s.coord.counted j y.object l).obj y.object.objIx).body =
        .live ⟨name, .lock (l.abandonHolder j)⟩ .clean := by
      simp [obj_expiredTables, names.live, ObjEntry.mapKind]
    have pass := grantPass_one (H := handler) (bar := none)
      (b := { b' with record := { b'.record with remaining := b'.record.remaining - 1 } })
      (Coord.lock?_live _ _ name _ .clean late) (by rw [left']; exact queue) findWait nofun grantable
      (by rw [sess_expiredTables, if_neg (Ne.symm diff)]; exact Coord.counted_current current') (clean _ b' current')
    have runs := engineTick_lease clean left current one holds waitless names holder
    rw [pass] at runs
    have sound := expiredTables_clean (c := s.coord.counted) clean' (Coord.counted_sessionsClean clean) j y.object l
    refine ⟨_, exec_coarseTick_clean patrolFirst due runs (Coord.cleanAt_of ⟨clean', clean⟩ _)
      (Coord.cleanAt_of (grantOne_clean sound.1 sound.2 _ _ _ _ _) _), tickFrame_ticked s _, ?_, ?_, ?_, ?_, ?_, ?_, ?_,
      ?_, ?_, fun i other => ?_, fun n unj unk => ⟨?_, ?_⟩, fun v other => ?_⟩
    · simp [sess_grantOne, sess_expiredTables, diff, SessEntry.counted]
    · simp [box_grantOne, box_expiredTables, diff]
    · simp
    · simp
    · simp [obj_grantOne, obj_expiredTables, names.live, ObjEntry.mapKind, left', LockRecord.addHolder,
        queue, mode]
    · simp [wait_grantOne, WaitEntry.counted]
    · simp [sessionNow, sess_grantOne, sess_expiredTables, Ne.symm diff, SessEntry.mapRecord,
        SessEntry.counted, current', SessRecord.lowerCount, isLock]
    · simp [box_grantOne, box_expiredTables, sess_expiredTables, Ne.symm diff, SessEntry.counted,
        current', left']
    · simp [box_grantOne, box_expiredTables, Ne.symm diff]
    · simp [obj_grantOne, obj_expiredTables, Ne.symm other]
    · simp [leaseCounted, sess_grantOne, sess_expiredTables, Ne.symm unj, Ne.symm unk, SessEntry.counted]
    · simp [box_grantOne, box_expiredTables, Ne.symm unj, Ne.symm unk]
    · simp [deadlineCounted, wait_grantOne, Ne.symm other, WaitEntry.counted]
  case deadlineTick =>
    intro s patrolFirst w y b name k id due clean clean' left body one isCounter names waiter current
    have runs := engineTick_deadline clean left body one names waiter current
    refine ⟨_, exec_coarseTick_clean patrolFirst due runs (Coord.cleanAt_of ⟨clean', clean⟩ _)
      (Coord.cleanAt_of (timedOutTables_clean (c := s.coord.counted) clean' (Coord.counted_sessionsClean clean) _ _ _)
        _),
      tickFrame_ticked s _, ?_, ?_, ?_, ?_, ?_, ⟨?_, ?_⟩, fun i other => ?_, fun n other => ⟨?_, ?_⟩,
      fun v other => ?_⟩
    · simp [wait_timedOutTables, WaitEntry.counted]
    · simp [obj_timedOutTables, names.live, ObjEntry.mapKind, ObjKind.without, waiter, WaitEntry.counted,
        id]
    · simp [sessionNow, sess_timedOutTables, SessEntry.mapRecord, SessEntry.counted, current,
        SessRecord.lowerCount, isCounter]
    · simp [box_timedOutTables, SessEntry.counted, current, WaitEntry.counted, id]
    · simp [box_timedOutTables]
    · simp
    · simp
    · simp [obj_timedOutTables, Ne.symm other]
    · simp [leaseCounted, sess_timedOutTables, Ne.symm other, SessEntry.counted]
    · simp [box_timedOutTables, Ne.symm other]
    · simp [deadlineCounted, wait_timedOutTables, Ne.symm other, WaitEntry.counted]
  case leaseRow =>
    intro s j b h name l current clean out holds waitless names holder queue
    have leaseOut : s.coord.leaseOut j = true := by
      simp [Coord.leaseOut, s.coord.sessRecord?_current j b current, out]
    have left' : l.abandonHolder j = { l with holders := [], mode := .free, abandoned := true } := by
      simp [LockRecord.abandonHolder, LockRecord.removeHolder, holder]
    have late : ((expiredTables s.coord j h l).obj h.objIx).body =
        .live ⟨name, .lock (l.abandonHolder j)⟩ .clean := by
      simp [obj_expiredTables, names.live, ObjEntry.mapKind]
    have tables : tickPasses s.coord s.coord (expireIfOut deferredHandler j s.coord) =
        expiredTables s.coord j h l := by
      rw [expireIfOut_sole current clean out holds waitless names, tickPasses_expired rfl names.live holder,
        grantPass_emptyQueue handler none h.objIx _ _ (Coord.lock?_live _ _ name _ .clean late)
          (by rw [left']; exact queue)]
    have runs : exec (.leaseExpiry j) s = .next (s.setCoord (expiredTables s.coord j h l)) := by
      have arm : exec (.leaseExpiry j) s = execLeaseExpiry j s := rfl
      rw [arm, execLeaseExpiry, if_pos leaseOut, tables]
    refine ⟨_, runs, ⟨rfl, rfl, rfl, rfl, rfl, rfl, rfl⟩, ?_, ?_, ?_, ?_, ?_, ?_, fun i other => ?_, fun n other => ?_,
      fun n other => ?_⟩
    · simp [sess_expiredTables]
    · simp [box_expiredTables]
    · simp [obj_expiredTables, names.live, ObjEntry.mapKind, left']
    · simp
    · simp
    · simp
    · simp [obj_expiredTables, Ne.symm other]
    · simp [sess_expiredTables, Ne.symm other]
    · simp [box_expiredTables, Ne.symm other]
  case deadlineRow =>
    intro s w y b name k id body out isCounter names waiter current clean
    have deadlineOut : s.coord.deadlineOut w = true := by simp [Coord.deadlineOut, body, out]
    have tables : tickPasses s.coord s.coord (expireWaitIfOut deferredHandler w s.coord) =
        timedOutTables s.coord w y (.counter k) := by
      rw [expireWaitIfOut_current (o := ⟨name, .counter k⟩) body out (by rw [names.live]) current clean,
        tickPasses_timedOut rfl names.live waiter]
    have runs : exec (.deadlineExpiry w) s = .next (s.setCoord (timedOutTables s.coord w y (.counter k))) := by
      have arm : exec (.deadlineExpiry w) s = execDeadlineExpiry w s := rfl
      rw [arm, execDeadlineExpiry, if_pos deadlineOut, tables]
    refine ⟨_, runs, ⟨rfl, rfl, rfl, rfl, rfl, rfl, rfl⟩, ?_, ?_, ?_, ?_, ?_, fun v other => ?_, fun i other => ?_,
      fun n other => ?_, fun n other => ?_, ⟨?_, ?_⟩⟩
    · simp [wait_timedOutTables]
    · simp [obj_timedOutTables, names.live, ObjEntry.mapKind, ObjKind.without, waiter, id]
    · simp [sessionNow, sess_timedOutTables, SessEntry.mapRecord, current, SessRecord.lowerCount, isCounter]
    · simp [box_timedOutTables, current, id]
    · simp [box_timedOutTables]
    · simp [wait_timedOutTables, Ne.symm other]
    · simp [obj_timedOutTables, Ne.symm other]
    · simp [sess_timedOutTables, Ne.symm other]
    · simp [box_timedOutTables, Ne.symm other]
    · simp
    · simp

end Sys2Proof.Machine
end

/-! Record faults (R41, R43, R99, R178 to R182): the fault teardown of an object and of a session, the reports of the
patrol and its corrections, and from that the statement O36. -/

section
namespace Sys2Proof.Machine

/-! ### The report of a patrol position -/

theorem patrolTarget_object {x : PatrolIx} {i : ObjIx} (same : x.val = i.val) : patrolTarget x = .obj i := by
  have low : x.val < 256 := by omega
  rw [patrolTarget, dif_pos low]
  exact congrArg _ (Fin.ext same)

theorem patrolTarget_session {x : PatrolIx} {j : SessIx} (same : x.val = 256 + j.val) : patrolTarget x = .sess j := by
  have high : ¬ x.val < 256 := by omega
  rw [patrolTarget, dif_neg high]
  exact congrArg _ (Fin.ext (by simp only [same]; omega))

/-- The state once the oldest patrol report has been taken with the tables `u` (R179). -/
def State.reportTaken (s : State) (rest : List PatrolReport) (u : Coord) : State :=
  { s with coord := u, patrol := { s.patrol with reports := rest } }

@[simp] theorem State.reportTaken_coord (s : State) (rest : List PatrolReport) (u : Coord) :
    (s.reportTaken rest u).coord = u := rfl

theorem reportFrame_reportTaken (s : State) (rest : List PatrolReport) (u : Coord) :
    reportFrame rest s (s.reportTaken rest u) := ⟨rfl, rfl, rfl, rfl, rfl, rfl, rfl⟩

theorem exec_patrolFaultReport_takes {s : State} {r : PatrolReport} {rest : List PatrolReport} {u : Coord}
    (oldest : s.patrol.reports = r :: rest) (acts : actOnReport r s.coord = u) :
    exec .patrolFaultReport s = .next (s.reportTaken rest u) := by
  have arm : exec .patrolFaultReport s = execPatrolFaultReport s := rfl
  rw [arm, execPatrolFaultReport, oldest]
  subst acts
  rfl

theorem actOnReport_object {r : PatrolReport} {i : ObjIx} {c : Coord} {o : ObjRecord} {u : Health}
    (position : r.position.val = i.val) (live : (c.obj i).body = .live o u) (gen : (c.obj i).gen = r.gen) :
    actOnReport r c = handler (.obj i) c := by
  simp only [actOnReport, patrolTarget_object position, live, gen, if_true]

theorem actOnReport_staleObject {r : PatrolReport} {i : ObjIx} {c : Coord} (position : r.position.val = i.val)
    (stale : ∀ o u, (c.obj i).body = .live o u → (c.obj i).gen ≠ r.gen) : actOnReport r c = c := by
  simp only [actOnReport, patrolTarget_object position]
  split
  case h_1 o u live => exact if_neg (stale o u live)
  case h_2 => rfl

theorem actOnReport_session {r : PatrolReport} {j : SessIx} {c : Coord} {b : SessCurrent}
    (position : r.position.val = 256 + j.val) (current : (c.sess j).body = some b) (gen : (c.sess j).gen = r.gen) :
    actOnReport r c = handler (.sess j) c := by
  simp only [actOnReport, patrolTarget_session position, current, gen, if_true]

theorem actOnReport_staleSession {r : PatrolReport} {j : SessIx} {c : Coord}
    (position : r.position.val = 256 + j.val) (stale : (c.sess j).body = none ∨ (c.sess j).gen ≠ r.gen) :
    actOnReport r c = c := by
  simp only [actOnReport, patrolTarget_session position]
  split
  case h_1 b current => exact if_neg (stale.resolve_left (by rw [current]; nofun))
  case h_2 => rfl

/-! ### The fault of an object -/

/-- The tables once object `i` is FAULTED and reported, before its waits and holds are ended (R180). -/
def faultedTables (c : Coord) (i : ObjIx) : Coord :=
  (c.setObjBody i .faulted).report (.recordFaulted (c.objHandle i))

theorem obj_faultedTables (c : Coord) (i k : ObjIx) :
    (faultedTables c i).obj k = if i = k then ⟨(c.obj i).gen, .faulted⟩ else c.obj k := by
  simp [faultedTables, Coord.setObjBody_eq]

@[simp] theorem sess_faultedTables (c : Coord) (i : ObjIx) (n : SessIx) : (faultedTables c i).sess n = c.sess n := rfl

@[simp] theorem wait_faultedTables (c : Coord) (i : ObjIx) (w : WaitIx) : (faultedTables c i).wait w = c.wait w := rfl

@[simp] theorem box_faultedTables (c : Coord) (i : ObjIx) (n : SessIx) : (faultedTables c i).box n = c.box n := rfl

@[simp] theorem engineOut_faultedTables (c : Coord) (i : ObjIx) :
    (faultedTables c i).engineOut = c.engineOut ++ [.recordFaulted (c.objHandle i)] := rfl

@[simp] theorem integrityOut_faultedTables (c : Coord) (i : ObjIx) :
    (faultedTables c i).integrityOut = c.integrityOut := rfl

/-- The fault of an object withdraws its waits and then revokes its holds (R180). -/
theorem faultObject_scans (H : Handler) (i : ObjIx) (c : Coord) :
    faultObject H i c = scan (indices 32) (faultRevoke H (c.objHandle i))
      (scan (indices 128) (faultWithdraw H (c.objHandle i)) (faultedTables c i)) := faultObject_eq H i c

/-- A session without the handle among its holds has nothing revoked from it. -/
theorem faultRevoke_unheld {H : Handler} {h : Handle} {n : SessIx} {c : Coord} (clean : c.sessionsClean)
    (unheld : ∀ x, c.sessRecord? n = some x → h ∉ x.holds) : faultRevoke H h n c = c := by
  cases current : (c.sess n).body with
  | none => rw [faultRevoke, revokeOne_free current]
  | some b =>
    have others : h ∉ b.record.holds := unheld _ (c.sessRecord?_current n b current)
    simp only [faultRevoke, revokeOne, readSess_clean H n c b current (clean n b current), if_neg others]

/-- The fault of an object that nobody holds or waits for (R180). -/
theorem faultObject_unused {H : Handler} {c : Coord} {i : ObjIx} (clean : c.sessionsClean)
    (unwaited : ∀ w y, (c.wait w).body = some y → y.object ≠ c.objHandle i)
    (unheld : ∀ j x, c.sessRecord? j = some x → c.objHandle i ∉ x.holds) :
    faultObject H i c = faultedTables c i := by
  rw [faultObject_scans, scan_nothing (c := faultedTables c i) fun w => faultWithdraw_other (unwaited w),
    scan_nothing fun j => faultRevoke_unheld (c := faultedTables c i) clean (unheld j)]

/-- The tables once wait `w`, in use as `y` on an object that has no record any more, has been withdrawn (R43). -/
def unqueuedTables (c : Coord) (w : WaitIx) (y : WaitRecord) : Coord :=
  ((c.pushWaitNotice (.withdrawn .faulted) (waitHandle w (c.wait w).gen) y).modSess y.owner fun x =>
    x.lowerCount y.kind).freeWait w

section
variable (c : Coord) (w : WaitIx) (y : WaitRecord)

@[simp] theorem obj_unqueuedTables (i : ObjIx) : (unqueuedTables c w y).obj i = c.obj i := by
  simp [unqueuedTables, Coord.freeWait_eq, Coord.pushWaitNotice]

theorem sess_unqueuedTables (n : SessIx) :
    (unqueuedTables c w y).sess n = if y.owner = n then (c.sess n).mapRecord fun x =>
      { x with
        lockWaits := if y.kind.isLock then x.lockWaits - 1 else x.lockWaits,
        counterWaits := if y.kind.isLock then x.counterWaits else x.counterWaits - 1,
        nextSerial := advanceSerial x.nextSerial } else c.sess n := by
  by_cases owner : y.owner = n
  · simp only [unqueuedTables, Coord.freeWait_eq, Coord.pushWaitNotice, Coord.sess_setWait, Coord.sess_modSess,
      Coord.sess_pushNotice, owner, if_true, SessEntry.mapRecord, SessRecord.lowerCount]
    cases y.kind.isLock <;> cases (c.sess n).body <;> rfl
  · simp [unqueuedTables, Coord.freeWait_eq, Coord.pushWaitNotice, Coord.sess_pushNotice, Coord.sess_modSess, owner]

theorem wait_unqueuedTables (v : WaitIx) : (unqueuedTables c w y).wait v =
    if w = v then ⟨advanceGen (c.wait w).gen, none⟩ else c.wait v := by
  simp [unqueuedTables, Coord.freeWait_eq, Coord.pushWaitNotice]

theorem box_unqueuedTables (n : SessIx) : (unqueuedTables c w y).box n =
    if y.owner = n then ⟨(c.box n).view, (c.box n).queue ++ (c.sess n).body.toList.map fun b =>
      ⟨b.record.nextSerial, .withdrawn .faulted, y.object, some (waitHandle w (c.wait w).gen, y.tag), false, y.slotRef⟩⟩
    else c.box n := by
  simp [unqueuedTables, Coord.freeWait_eq, Coord.pushWaitNotice, Coord.box_pushNotice]

@[simp] theorem engineOut_unqueuedTables : (unqueuedTables c w y).engineOut = c.engineOut := by
  simp [unqueuedTables, Coord.freeWait_eq, Coord.pushWaitNotice]

@[simp] theorem integrityOut_unqueuedTables : (unqueuedTables c w y).integrityOut = c.integrityOut := by
  simp [unqueuedTables, Coord.freeWait_eq, Coord.pushWaitNotice]

end

theorem unqueuedTables_sessionsClean {c : Coord} (clean : c.sessionsClean) (w : WaitIx) (y : WaitRecord) :
    (unqueuedTables c w y).sessionsClean := by
  refine clean.of_entries fun n => ?_
  rw [sess_unqueuedTables]
  split
  · exact .inr (.inr ⟨_, rfl⟩)
  · exact .inl rfl

/-- The withdrawal from a FAULTED object of a wait whose owner's record is sound. -/
theorem faultWithdraw_current {H : Handler} {w : WaitIx} {c : Coord} {y : WaitRecord} {b : SessCurrent}
    (body : (c.wait w).body = some y) (gone : c.record? y.object.objIx = none)
    (current : (c.sess y.owner).body = some b) (clean : b.health = .clean) :
    faultWithdraw H y.object w c = unqueuedTables c w y := by
  have names : (c.wait w).body.map (·.object) = some y.object := by rw [body]; rfl
  rw [faultWithdraw, if_pos names, withdrawOne_current body current clean, Coord.dequeue_eq]
  have gone' : ((c.pushWaitNotice (.withdrawn .faulted) (waitHandle w (c.wait w).gen) y).modSess y.owner fun x =>
      x.lowerCount y.kind).record? y.object.objIx = none := by
    rw [← gone, Coord.record?, Coord.record?]
    simp [Coord.pushWaitNotice]
  rw [gone']
  rfl

/-- The tables once the object named `h`, which has no record any more, has been revoked from session `j` (R43). -/
def unheldTables (c : Coord) (h : Handle) (j : SessIx) : Coord :=
  (c.modSess j fun x => { x with holds := x.holds.erase h }).pushNotice j (.revoked .faulted) h none none

theorem sess_unheldTables (c : Coord) (h : Handle) (j n : SessIx) :
    (unheldTables c h j).sess n = if j = n then (c.sess n).mapRecord fun x =>
      { x with holds := x.holds.erase h, nextSerial := advanceSerial x.nextSerial } else c.sess n := by
  by_cases same : j = n <;>
    simp [unheldTables, Coord.sess_pushNotice, Coord.sess_modSess, same, SessEntry.mapRecord, Function.comp_def]

theorem box_unheldTables (c : Coord) (h : Handle) (j n : SessIx) :
    (unheldTables c h j).box n = if j = n then ⟨(c.box n).view, (c.box n).queue ++
      (c.sess n).body.toList.map fun b => ⟨b.record.nextSerial, .revoked .faulted, h, none, false, none⟩⟩
      else c.box n := by
  by_cases same : j = n
  · simp only [unheldTables, Coord.box_pushNotice, Coord.box_modSess, Coord.sess_modSess, same, if_true,
      SessEntry.mapRecord]
    cases (c.sess n).body <;> rfl
  · simp [unheldTables, Coord.box_pushNotice, same]

theorem unheldTables_sessionsClean {c : Coord} (clean : c.sessionsClean) (h : Handle) (j : SessIx) :
    (unheldTables c h j).sessionsClean := by
  refine clean.of_entries fun n => ?_
  rw [sess_unheldTables]
  split
  · exact .inr (.inr ⟨_, rfl⟩)
  · exact .inl rfl

/-- The revocation of a FAULTED object from a holder whose record is sound. -/
theorem faultRevoke_current {H : Handler} {h : Handle} {j : SessIx} {c : Coord} {b : SessCurrent}
    (current : (c.sess j).body = some b) (clean : b.health = .clean) (holds : h ∈ b.record.holds)
    (gone : c.record? h.objIx = none) : faultRevoke H h j c = unheldTables c h j := by
  have gone' : (unheldTables c h j).lock? h.objIx = none := by
    have record : (unheldTables c h j).record? h.objIx = c.record? h.objIx := by
      rw [Coord.record?, Coord.record?]
      simp [unheldTables]
    rw [Coord.lock?, record, gone]
  rw [faultRevoke, revokeOne_current current clean holds]
  simp only [dropHolder]
  rw [show ((c.modSess j fun x => { x with holds := x.holds.erase h }).pushNotice j (.revoked .faulted) h none
    none).lock? h.objIx = none from gone']
  rfl

/-- The fault of an object with one wait on it and one holder (R43, R180). -/
theorem faultObject_used {H : Handler} {c : Coord} {w : WaitIx} {y : WaitRecord} {j : SessIx} {b b' : SessCurrent}
    (clean : c.sessionsClean) (handle : c.objHandle y.object.objIx = y.object) (body : (c.wait w).body = some y)
    (only : ∀ v z, (c.wait v).body = some z → z.object = y.object → v = w)
    (current' : (c.sess y.owner).body = some b') (other : j ≠ y.owner) (current : (c.sess j).body = some b)
    (holds : y.object ∈ b.record.holds)
    (unheld : ∀ n x, n ≠ j → c.sessRecord? n = some x → y.object ∉ x.holds) :
    faultObject H y.object.objIx c =
      unheldTables (unqueuedTables (faultedTables c y.object.objIx) w y) y.object j := by
  have gone : (faultedTables c y.object.objIx).record? y.object.objIx = none := by
    rw [Coord.record?, obj_faultedTables, if_pos rfl]
    rfl
  have gone' : (unqueuedTables (faultedTables c y.object.objIx) w y).record? y.object.objIx = none := by
    rw [← gone, Coord.record?, obj_unqueuedTables, Coord.record?]
  have withdraws : scan (indices 128) (faultWithdraw H y.object) (faultedTables c y.object.objIx) =
      unqueuedTables (faultedTables c y.object.objIx) w y := by
    have idle (v : WaitIx) (diff : v ≠ w) (z : WaitRecord) (here : (c.wait v).body = some z) : z.object ≠ y.object :=
      fun same => diff (only v z here same)
    refine scan_once (fun v diff => faultWithdraw_other (idle v diff))
      (faultWithdraw_current body gone current' (clean _ b' current')) fun v diff => faultWithdraw_other ?_
    rw [wait_unqueuedTables, if_neg (Ne.symm diff)]
    exact idle v diff
  have clean' := unqueuedTables_sessionsClean (c := faultedTables c y.object.objIx) clean w y
  have idle (n : SessIx) (diff : n ≠ j) (x : SessRecord)
      (here : (unqueuedTables (faultedTables c y.object.objIx) w y).sessRecord? n = some x) : y.object ∉ x.holds := by
    rw [Coord.sessRecord?, sess_unqueuedTables, sess_faultedTables] at here
    split at here
    · obtain ⟨a, mapped, rfl⟩ := Option.map_eq_some_iff.mp here
      obtain ⟨a', before, rfl⟩ := Option.map_eq_some_iff.mp mapped
      exact unheld n a'.record diff (c.sessRecord?_current n a' before)
    · exact unheld n x diff here
  have revokes : scan (indices 32) (faultRevoke H y.object) (unqueuedTables (faultedTables c y.object.objIx) w y) =
      unheldTables (unqueuedTables (faultedTables c y.object.objIx) w y) y.object j := by
    refine scan_once (fun n diff => faultRevoke_unheld clean' (idle n diff)) (faultRevoke_current (b := b) ?_
      (clean j b current) holds gone') fun n diff => faultRevoke_unheld (unheldTables_sessionsClean clean' _ _) ?_
    · rw [sess_unqueuedTables, if_neg (Ne.symm other)]
      exact current
    · rw [Coord.sessRecord?, sess_unheldTables, if_neg (Ne.symm diff)]
      exact idle n diff
  rw [faultObject_scans, handle, withdraws, revokes]

/-! ### The fault of a session -/

/-- The handling of an uncorrectable session record is the teardown of the session, with its passes (R41, R181). -/
theorem handler_sess : ∃ H : Handler, ∀ j c, handler (.sess j) c = faultSession H ⟨fun _ => true, none⟩ j c := by
  obtain ⟨n, depth⟩ : ∃ n, Config.faultDepth = n + 1 := ⟨_, rfl⟩
  unfold handler
  rw [depth]
  exact ⟨faultHandler _ n, fun _ _ => rfl⟩

/-- The tables once session `j`, a holder of the lock `l` at `i` that waits for nothing, has been torn down (R41). -/
def tornDownTables (c : Coord) (j : SessIx) (i : ObjIx) (l : LockRecord) : Coord :=
  ((((c.setSess j ⟨(c.sess j).gen, none⟩).report (.sessionFaulted (c.sessHandle j))).setKind i
    (.lock (l.abandonHolder j))).setBox j ⟨none, []⟩).setSess j ⟨advanceGen (c.sess j).gen, none⟩

/-- An object that does not list the session among its holders is left alone by the teardown. -/
theorem teardownHolding_other {H : Handler} {P : PassRule} {j : SessIx} {i : ObjIx} {c : Coord} (clean : c.objectsClean)
    (unlisted : ∀ name m, c.record? i = some ⟨name, .lock m⟩ → j ∉ m.holders) : teardownHolding H P j i c = c := by
  rw [teardownHolding, readObj_ofClean clean]
  rcases record : c.record? i with _ | ⟨name, m | k⟩
  · rfl
  · simp [unlisted name m record]
  · rfl

theorem teardownWait_other {H : Handler} {P : PassRule} {j : SessIx} {w : WaitIx} {c : Coord}
    (other : ∀ y, (c.wait w).body = some y → y.owner ≠ j) : teardownWait H P j w c = c := by
  unfold teardownWait
  split
  case h_1 => rfl
  case h_2 y body => exact if_neg (other y body)

/-- A lock without a queue that lists the session is abandoned by it. -/
theorem teardownHolding_listed {H : Handler} {P : PassRule} {j : SessIx} {i : ObjIx} {c : Coord} {g : Byte}
    {name : List Byte} {l : LockRecord} (live : c.obj i = ⟨g, .live ⟨name, .lock l⟩ .clean⟩) (listed : j ∈ l.holders)
    (queue : l.queue = []) : teardownHolding H P j i c = c.setKind i (.lock (l.abandonHolder j)) := by
  have here : (c.setKind i (.lock (l.abandonHolder j))).lock? i = some (l.abandonHolder j) :=
    Coord.lock?_live _ _ name _ .clean (by simp [Coord.obj_setKind, live, ObjEntry.mapKind])
  simp only [teardownHolding, readObj_clean H i c _ (by rw [live]), if_pos listed, Coord.setLock_eq,
    grantPass_emptyQueue H P.bar i _ _ here queue, ite_self]

/-- The teardown of a session without waits that one lock lists (R41, R99). -/
theorem faultSession_listed {H : Handler} {P : PassRule} {s : State} {j : SessIx} {h : Handle} {name : List Byte}
    {l : LockRecord} (clean : objectsClean s) (waitless : ownsNoWait s j) (names : namesObject s h ⟨name, .lock l⟩)
    (listed : j ∈ l.holders) (queue : l.queue = [])
    (unlisted : ∀ i n m, i ≠ h.objIx → s.coord.record? i = some ⟨n, .lock m⟩ → j ∉ m.holders) :
    faultSession H P j s.coord = tornDownTables s.coord j h.objIx l := by
  have freed : ∃ c : Coord, c = (s.coord.setSess j ⟨(s.coord.sess j).gen, none⟩).report
      (.sessionFaulted (Machine.sessHandle j (s.coord.sess j).gen)) ∧ (∀ i, c.obj i = s.coord.obj i) ∧
      ∀ w, c.wait w = s.coord.wait w :=
    ⟨_, rfl, fun _ => rfl, fun _ => rfl⟩
  obtain ⟨c, freed, obj, wait⟩ := freed
  have record (i : ObjIx) : c.record? i = s.coord.record? i := by rw [Coord.record?, obj, Coord.record?]
  have clean' : c.objectsClean := fun i o u live => clean i o u (by rw [← obj]; exact live)
  have holdings : scan (indices 256) (teardownHolding H P j) c =
      c.setKind h.objIx (.lock (l.abandonHolder j)) := by
    refine scan_once (i := h.objIx) (fun i diff => teardownHolding_other clean' fun n m live => ?_)
      (teardownHolding_listed (g := h.gen) (by rw [obj, names.live]) listed queue)
      fun i diff => teardownHolding_other (clean'.of_entries fun k => ?_) fun n m live => ?_
    · exact unlisted i n m diff (by rw [← record]; exact live)
    · rw [Coord.obj_setKind]
      split
      · exact .inr ⟨_, rfl⟩
      · exact .inl rfl
    · refine unlisted i n m diff ?_
      rwa [Coord.record?, Coord.obj_setKind, if_neg (Ne.symm diff), ← Coord.record?, record] at live
  have waits : scan (indices 128) (teardownWait H P j) (c.setKind h.objIx (.lock (l.abandonHolder j))) =
      c.setKind h.objIx (.lock (l.abandonHolder j)) := by
    refine scan_nothing (fun w => teardownWait_other fun y body => waitless w y ?_) _
    rwa [Coord.wait_setKind, wait] at body
  unfold faultSession
  simp only [← freed, holdings, waits]
  rw [freed]
  rfl

end Sys2Proof.Machine
end

/-! The patrol step at an object record with a wrong bit (R179), and the statement O36. -/

section
namespace Sys2Proof.Machine

/-! ### The patrol step at a wrong bit -/

/-- A patrol step corrects an object record with one wrong bit, and reports it (R178, R179). -/
theorem patrolStep_oneBit {s : State} {i : ObjIx} {o : ObjRecord} (scrub : s.mgmt.params.scrub = 1)
    (position : s.patrol.position.val = i.val) (body : (s.coord.obj i).body = .live o .oneBit) :
    patrolStep s = { s with
      coord := (s.coord.setObjBody i (.live o .clean)).reportCorrected
      patrol := { s.patrol with position := s.patrol.position + 1 } } := by
  simp [patrolStep, scrub, patrolTarget_object position, readObj, body, nextPosition]

/-- A patrol step makes a report of an uncorrectable object record (R179). -/
theorem patrolStep_uncorrectable {s : State} {i : ObjIx} {o : ObjRecord} (scrub : s.mgmt.params.scrub = 1)
    (position : s.patrol.position.val = i.val) (body : (s.coord.obj i).body = .live o .uncorrectable) :
    patrolStep s = { s with patrol :=
      ⟨s.patrol.position + 1, s.patrol.reports ++ [⟨s.patrol.position, (s.coord.obj i).gen⟩]⟩ } := by
  simp [patrolStep, scrub, patrolTarget_object position, readObj, body, nextPosition]

/-- A coarse tick in which nothing runs out and the patrol corrects an object record: in either order the record is
corrected and the leases and deadlines are counted down. -/
theorem exec_coarseTick_corrects {s : State} {i : ObjIx} {o : ObjRecord} (patrolFirst : Bool)
    (due : 0 < s.timebase.coarseDue) (clean : sessionsClean s) (left : noneRunsOut s none none)
    (scrub : s.mgmt.params.scrub = 1) (position : s.patrol.position.val = i.val)
    (body : (s.coord.obj i).body = .live o .oneBit) :
    exec (.coarseTick patrolFirst) s =
      .next (s.ticked (s.coord.setObjBody i (.live o .clean)).reportCorrected.counted) := by
  have corrected : engineTick (s.coord.setObjBody i (.live o .clean)).reportCorrected =
      (s.coord.setObjBody i (.live o .clean)).reportCorrected.counted :=
    engineTick_idle clean left.noLeaseOut left.noDeadlineOut
  have uncorrected : engineTick s.coord = s.coord.counted :=
    engineTick_idle clean left.noLeaseOut left.noDeadlineOut
  have moved : s.patrolled = { s.patrol with position := s.patrol.position + 1 } := if_pos scrub
  rw [exec_coarseTick_due patrolFirst due, uncorrected,
    patrolStep_oneBit (s := s.tickTaken) scrub position body,
    patrolStep_oneBit (s := s.tickTaken.setCoord s.coord.counted) scrub position body]
  cases patrolFirst with
  | true =>
    have taken : s.tickTaken.coord = s.coord := rfl
    simp only [if_true, taken, corrected, State.ticked, moved]
    rfl
  | false =>
    simp only [Bool.false_eq_true, if_false, State.ticked, moved]
    rfl

/-- A coarse tick in which nothing runs out and the patrol reports an uncorrectable object record. -/
theorem exec_coarseTick_reports {s : State} {i : ObjIx} {o : ObjRecord} (patrolFirst : Bool)
    (due : 0 < s.timebase.coarseDue) (clean : sessionsClean s) (left : noneRunsOut s none none)
    (scrub : s.mgmt.params.scrub = 1) (position : s.patrol.position.val = i.val)
    (body : (s.coord.obj i).body = .live o .uncorrectable) :
    exec (.coarseTick patrolFirst) s = .next { s.tickTaken with
      coord := s.coord.counted
      patrol := ⟨s.patrol.position + 1, s.patrol.reports ++ [⟨s.patrol.position, (s.coord.obj i).gen⟩]⟩ } := by
  have ticks : engineTick s.coord = s.coord.counted := engineTick_idle clean left.noLeaseOut left.noDeadlineOut
  rw [exec_coarseTick_due patrolFirst due, ticks,
    patrolStep_uncorrectable (s := s.tickTaken) scrub position body,
    patrolStep_uncorrectable (s := s.tickTaken.setCoord s.coord.counted) scrub position body]
  cases patrolFirst with
  | true =>
    have taken : s.tickTaken.coord = s.coord := rfl
    simp only [if_true, taken, ticks]
    rfl
  | false =>
    simp only [Bool.false_eq_true, if_false]
    rfl

/-! ### The statement -/

/-- Settles O36: a current report runs the fault teardown, a stale one nothing, and the patrol step is one with the
countdown of its tick. -/
theorem patrolReportFaultsObject : Obligations.PatrolReportFaultsObject := by
  refine ⟨?object, fun s r rest j oldest position => ⟨?listed, ?gone⟩,
    fun s patrolFirst i o due clean left scrub position => ⟨?corrects, ?reports⟩⟩
  case' object =>
    intro s r rest i oldest position h
    refine ⟨?unused, ?used, ?stale⟩
  case unused =>
    intro o u live gen clean unwaited unheld
    obtain ⟨H, faults⟩ := handler_obj
    have acts := (actOnReport_object position live gen).trans ((faults i s.coord).trans
      (faultObject_unused (c := s.coord) clean unwaited unheld))
    refine ⟨_, exec_patrolFaultReport_takes oldest acts, reportFrame_reportTaken s rest _, ?_, fun k other => ?_, rfl,
      rfl, rfl, rfl, rfl⟩
    · simp [obj_faultedTables]
    · simp [obj_faultedTables, Ne.symm other]
  case used =>
    intro o u w y j k b b' live gen clean body object only owner current' other current holds unheld
    obtain ⟨H, faults⟩ := handler_obj
    have index : y.object.objIx = i := by rw [object]; exact objHandle_objIx i _
    have handle : s.coord.objHandle y.object.objIx = y.object := by rw [index, object]
    have tables := faultObject_used (H := H) (c := s.coord) (b := b) (b' := b') (j := j) clean handle body
      (by rw [object]; exact only) (by rw [owner]; exact current') (by rw [owner]; exact other) current
      (by rw [object]; exact holds) (by rw [object]; exact unheld)
    rw [index] at tables
    have acts := (actOnReport_object position live gen).trans ((faults i s.coord).trans tables)
    have other' : ¬ k = j := Ne.symm other
    refine ⟨_, exec_patrolFaultReport_takes oldest acts, reportFrame_reportTaken s rest _, ?_, fun n diff => ?_, ?_,
      fun v diff => ?_, ?_, ?_, ?_, ?_, ?_, ?_, fun n unj unk => ⟨?_, ?_⟩, ?_, ?_⟩
    · simp [unheldTables, obj_faultedTables]
    · simp [unheldTables, obj_faultedTables, Ne.symm diff]
    · simp [unheldTables, wait_unqueuedTables]
    · simp [unheldTables, wait_unqueuedTables, Ne.symm diff]
    · simp [sessionNow, sess_unheldTables, sess_unqueuedTables, owner, other, SessEntry.mapRecord, current']
    · simp [box_unheldTables, box_unqueuedTables, owner, other, current', object, h]
    · simp [box_unheldTables, box_unqueuedTables, owner, other]
    · simp [sessionNow, sess_unheldTables, sess_unqueuedTables, owner, other', SessEntry.mapRecord, current, object, h]
    · simp [box_unheldTables, box_unqueuedTables, sess_unqueuedTables, owner, other', current, object, h]
    · simp [box_unheldTables, box_unqueuedTables, owner, other']
    · simp [sess_unheldTables, sess_unqueuedTables, owner, Ne.symm unj, Ne.symm unk]
    · simp [box_unheldTables, box_unqueuedTables, owner, Ne.symm unj, Ne.symm unk]
    · simp [unheldTables, h]
    · simp [unheldTables]
  case stale =>
    intro stale
    exact exec_patrolFaultReport_takes oldest (actOnReport_staleObject position stale)
  case listed =>
    intro b h name l current gen clean waitless names listed queue unlisted
    obtain ⟨H, faults⟩ := handler_sess
    have acts := (actOnReport_session position current gen).trans ((faults j s.coord).trans
      (faultSession_listed clean waitless names listed queue unlisted))
    refine ⟨_, exec_patrolFaultReport_takes oldest acts, reportFrame_reportTaken s rest _, ?_, ?_, ?_,
      fun k other => ?_, fun n other => ?_, fun n other => ?_, ?_, ?_, ?_⟩
    · simp [tornDownTables]
    · simp [tornDownTables]
    · simp [tornDownTables, Coord.obj_setKind, names.live, ObjEntry.mapKind, LockRecord.abandonHolder,
        LockRecord.removeHolder]
    · simp [tornDownTables, Coord.obj_setKind, Ne.symm other]
    · simp [tornDownTables, Ne.symm other]
    · simp [tornDownTables, Ne.symm other]
    · simp [tornDownTables]
    · simp [tornDownTables]
    · simp [tornDownTables]
  case gone =>
    intro stale
    exact exec_patrolFaultReport_takes oldest (actOnReport_staleSession position stale)
  case corrects =>
    intro body
    refine ⟨_, exec_coarseTick_corrects patrolFirst due clean left scrub position body, ?_, fun k other => ?_, rfl, rfl,
      rfl, fun n => Coord.counted_sess _ n, fun v => Coord.counted_wait _ v, tickFrame_ticked s _⟩
    · simp [Coord.setObjBody_eq]
    · simp [Coord.setObjBody_eq, Ne.symm other]
  case reports =>
    intro body
    exact ⟨_, exec_coarseTick_reports patrolFirst due clean left scrub position body, rfl, ⟨rfl, rfl, rfl⟩, rfl⟩

end Sys2Proof.Machine
end
